-- ==== Sys2Proof/Word.lean ====
section
/-!
DEFINITION. The machine's words (00_scope.md R6): the 8-bit byte and the 16-bit address.
-/

namespace Sys2Proof

/-- The addressable unit and the width of `A`, `X`, `Y`, `SP` (R6). -/
abbrev Byte := BitVec 8

/-- The width of an address and of `pc` (R6). -/
abbrev Addr := BitVec 16

end Sys2Proof
end

