-- ==== Sys2Proof/Config.lean ====
section
/-!
DEFINITION. What an implementation of the machine fixes (00_scope.md R6, R7), and the free values. The
parameters OPTABLE, MEM_INIT, ALLOW_LOAD_WRAP, maxSteps and vectorAddress of R7 are arguments of the functions
that use them; their defaults stand here or beside those functions.
-/

namespace Sys2Proof.Config

/-- Bytes in the Memory Bank (R6; 20_memory.md R50). -/
def memorySize : Nat := 65536

/-- What an address that the memory list does not name reads as. DESIGN CHOICE (log 1), unsafe: R56 gives no
contents at construction. Any other initial contents are a memory list, the argument `memInit` of
`State.constructed`, and no statement rests on this value. -/
def unlistedByte : Byte := 0x00

/-- The `vectorAddress` the engine's `reset()` passes (R7; 70_reset_and_hazards.md R280). -/
def resetVector : Addr := 0xFFFC

/-- The default of ALLOW_LOAD_WRAP (R7). -/
def allowLoadWrap : Bool := true

/-- Free values (log 2): the 8-bit registers before the first `reset()`, to which the spec gives no value
(10_state.md R32). The argument tells `SP`, `A`, `X`, `Y` apart. -/
opaque unsetByte : Nat → Byte

/-- Free value (log 2): `pc` before the first `reset()` (10_state.md R32). -/
opaque unsetPc : Addr

/-- Free values (log 2): the seven flags before the first `reset()` (10_state.md R32). -/
opaque unsetFlag : Nat → Bool

end Sys2Proof.Config
end

