-- ==== Sys2Proof/Syntax.lean ====
section
/-!
DEFINITION. The syntax of the machine's instructions: mnemonics (30_encoding.md R88), addressing
mode tags (R83), opcode table entries and tables (R80, R45), and `Instr`, one constructor per row of
spec/opcode_table.json, with the operand bytes of its format (R82) as its arguments.
-/

namespace Sys2Proof

/-- The 56 mnemonics of R88, in its order. -/
inductive Mnemonic where
  | LDA | LDX | LDY | STA | STX | STY | TAX | TAY
  | TXA | TYA | TSX | TXS | ADC | SBC | AND | ORA
  | EOR | CMP | CPX | CPY | BIT | INC | DEC | INX
  | INY | DEX | DEY | ASL | LSR | ROL | ROR | JMP
  | JSR | RTS | RTI | BCC | BCS | BEQ | BNE | BMI
  | BPL | BVC | BVS | PHA | PHP | PLA | PLP | CLC
  | SEC | CLI | SEI | CLD | SED | CLV | NOP | BRK
  deriving DecidableEq, Repr

/-- The 13 addressing mode tags of R83. -/
inductive Mode where
  | imp | acc | imm | zp | zpx | zpy | abs | abx | aby | ind | izx | izy | rel
  deriving DecidableEq, Repr

/-- The two fault kinds of R42, R247: the names under which a decoder rejects a byte. -/
inductive FaultKind where
  /-- the opcode byte has no table entry (R245) -/
  | unknownOpcode
  /-- the opcode byte has an ill-formed table entry (R246) -/
  | invalidOperand
  deriving DecidableEq, Repr

/-- An opcode table entry (R80). `mode` is `none` for a tag that is none of the thirteen, which R90
calls ill formed. The handler is the one the mnemonic names. -/
structure Entry where
  opcode   : Byte
  mnemonic : Mnemonic
  mode     : Option Mode
  length   : Nat
  deriving DecidableEq, Repr

/-- An opcode table (R45, R80): read-only data, a parameter of the step and no part of the state. -/
abbrev OpTable := List Entry

/-- One constructor per row of spec/opcode_table.json. `v` is an immediate byte, `b1` a zero-page
address, pointer base or displacement byte, `a` the 16-bit operand `b2:b1` (R82 to R84). -/
inductive Instr where
  | ldaImm (v : Byte) | ldaZp (b1 : Byte) | ldaZpx (b1 : Byte) | ldaIzx (b1 : Byte) | ldaIzy (b1 : Byte) | ldaAbs (a : Addr) | ldaAbx (a : Addr) | ldaAby (a : Addr)
  | ldxImm (v : Byte) | ldxZp (b1 : Byte) | ldxZpy (b1 : Byte) | ldxAbs (a : Addr) | ldxAby (a : Addr)
  | ldyImm (v : Byte) | ldyZp (b1 : Byte) | ldyZpx (b1 : Byte) | ldyAbs (a : Addr) | ldyAbx (a : Addr)
  | staZp (b1 : Byte) | staZpx (b1 : Byte) | staIzx (b1 : Byte) | staIzy (b1 : Byte) | staAbs (a : Addr) | staAbx (a : Addr) | staAby (a : Addr)
  | stxZp (b1 : Byte) | stxZpy (b1 : Byte) | stxAbs (a : Addr)
  | styZp (b1 : Byte) | styZpx (b1 : Byte) | styAbs (a : Addr)
  | tax
  | tay
  | txa
  | tya
  | tsx
  | txs
  | adcImm (v : Byte) | adcZp (b1 : Byte) | adcZpx (b1 : Byte) | adcIzx (b1 : Byte) | adcIzy (b1 : Byte) | adcAbs (a : Addr) | adcAbx (a : Addr) | adcAby (a : Addr)
  | sbcImm (v : Byte) | sbcZp (b1 : Byte) | sbcZpx (b1 : Byte) | sbcIzx (b1 : Byte) | sbcIzy (b1 : Byte) | sbcAbs (a : Addr) | sbcAbx (a : Addr) | sbcAby (a : Addr)
  | andImm (v : Byte) | andZp (b1 : Byte) | andZpx (b1 : Byte) | andIzx (b1 : Byte) | andIzy (b1 : Byte) | andAbs (a : Addr) | andAbx (a : Addr) | andAby (a : Addr)
  | oraImm (v : Byte) | oraZp (b1 : Byte) | oraZpx (b1 : Byte) | oraIzx (b1 : Byte) | oraIzy (b1 : Byte) | oraAbs (a : Addr) | oraAbx (a : Addr) | oraAby (a : Addr)
  | eorImm (v : Byte) | eorZp (b1 : Byte) | eorZpx (b1 : Byte) | eorIzx (b1 : Byte) | eorIzy (b1 : Byte) | eorAbs (a : Addr) | eorAbx (a : Addr) | eorAby (a : Addr)
  | cmpImm (v : Byte) | cmpZp (b1 : Byte) | cmpZpx (b1 : Byte) | cmpIzx (b1 : Byte) | cmpIzy (b1 : Byte) | cmpAbs (a : Addr) | cmpAbx (a : Addr) | cmpAby (a : Addr)
  | cpxImm (v : Byte) | cpxZp (b1 : Byte) | cpxAbs (a : Addr)
  | cpyImm (v : Byte) | cpyZp (b1 : Byte) | cpyAbs (a : Addr)
  | bitZp (b1 : Byte) | bitAbs (a : Addr)
  | incZp (b1 : Byte) | incZpx (b1 : Byte) | incAbs (a : Addr) | incAbx (a : Addr)
  | decZp (b1 : Byte) | decZpx (b1 : Byte) | decAbs (a : Addr) | decAbx (a : Addr)
  | inx
  | iny
  | dex
  | dey
  | aslAcc | aslZp (b1 : Byte) | aslZpx (b1 : Byte) | aslAbs (a : Addr) | aslAbx (a : Addr)
  | lsrAcc | lsrZp (b1 : Byte) | lsrZpx (b1 : Byte) | lsrAbs (a : Addr) | lsrAbx (a : Addr)
  | rolAcc | rolZp (b1 : Byte) | rolZpx (b1 : Byte) | rolAbs (a : Addr) | rolAbx (a : Addr)
  | rorAcc | rorZp (b1 : Byte) | rorZpx (b1 : Byte) | rorAbs (a : Addr) | rorAbx (a : Addr)
  | jmpAbs (a : Addr) | jmpInd (a : Addr)
  | jsr (a : Addr)
  | rts
  | rti
  | bcc (b1 : Byte)
  | bcs (b1 : Byte)
  | beq (b1 : Byte)
  | bne (b1 : Byte)
  | bmi (b1 : Byte)
  | bpl (b1 : Byte)
  | bvc (b1 : Byte)
  | bvs (b1 : Byte)
  | pha
  | php
  | pla
  | plp
  | clc
  | sec
  | cli
  | sei
  | cld
  | sed
  | clv
  | nop
  | brk
  deriving DecidableEq, Repr

/-- An instruction's mnemonic, addressing mode and operand: what its row of R88 says of it. -/
inductive OperandBytes where
  | none
  | one (b1 : Byte)
  | two (a : Addr)
  deriving DecidableEq, Repr

/-- The mnemonic and the addressing mode of an instruction, and its operand. -/
def Instr.parts : Instr → Mnemonic × Mode × OperandBytes
  | .ldaImm v => (.LDA, .imm, .one v)
  | .ldaZp b1 => (.LDA, .zp, .one b1)
  | .ldaZpx b1 => (.LDA, .zpx, .one b1)
  | .ldaIzx b1 => (.LDA, .izx, .one b1)
  | .ldaIzy b1 => (.LDA, .izy, .one b1)
  | .ldaAbs a => (.LDA, .abs, .two a)
  | .ldaAbx a => (.LDA, .abx, .two a)
  | .ldaAby a => (.LDA, .aby, .two a)
  | .ldxImm v => (.LDX, .imm, .one v)
  | .ldxZp b1 => (.LDX, .zp, .one b1)
  | .ldxZpy b1 => (.LDX, .zpy, .one b1)
  | .ldxAbs a => (.LDX, .abs, .two a)
  | .ldxAby a => (.LDX, .aby, .two a)
  | .ldyImm v => (.LDY, .imm, .one v)
  | .ldyZp b1 => (.LDY, .zp, .one b1)
  | .ldyZpx b1 => (.LDY, .zpx, .one b1)
  | .ldyAbs a => (.LDY, .abs, .two a)
  | .ldyAbx a => (.LDY, .abx, .two a)
  | .staZp b1 => (.STA, .zp, .one b1)
  | .staZpx b1 => (.STA, .zpx, .one b1)
  | .staIzx b1 => (.STA, .izx, .one b1)
  | .staIzy b1 => (.STA, .izy, .one b1)
  | .staAbs a => (.STA, .abs, .two a)
  | .staAbx a => (.STA, .abx, .two a)
  | .staAby a => (.STA, .aby, .two a)
  | .stxZp b1 => (.STX, .zp, .one b1)
  | .stxZpy b1 => (.STX, .zpy, .one b1)
  | .stxAbs a => (.STX, .abs, .two a)
  | .styZp b1 => (.STY, .zp, .one b1)
  | .styZpx b1 => (.STY, .zpx, .one b1)
  | .styAbs a => (.STY, .abs, .two a)
  | .tax => (.TAX, .imp, .none)
  | .tay => (.TAY, .imp, .none)
  | .txa => (.TXA, .imp, .none)
  | .tya => (.TYA, .imp, .none)
  | .tsx => (.TSX, .imp, .none)
  | .txs => (.TXS, .imp, .none)
  | .adcImm v => (.ADC, .imm, .one v)
  | .adcZp b1 => (.ADC, .zp, .one b1)
  | .adcZpx b1 => (.ADC, .zpx, .one b1)
  | .adcIzx b1 => (.ADC, .izx, .one b1)
  | .adcIzy b1 => (.ADC, .izy, .one b1)
  | .adcAbs a => (.ADC, .abs, .two a)
  | .adcAbx a => (.ADC, .abx, .two a)
  | .adcAby a => (.ADC, .aby, .two a)
  | .sbcImm v => (.SBC, .imm, .one v)
  | .sbcZp b1 => (.SBC, .zp, .one b1)
  | .sbcZpx b1 => (.SBC, .zpx, .one b1)
  | .sbcIzx b1 => (.SBC, .izx, .one b1)
  | .sbcIzy b1 => (.SBC, .izy, .one b1)
  | .sbcAbs a => (.SBC, .abs, .two a)
  | .sbcAbx a => (.SBC, .abx, .two a)
  | .sbcAby a => (.SBC, .aby, .two a)
  | .andImm v => (.AND, .imm, .one v)
  | .andZp b1 => (.AND, .zp, .one b1)
  | .andZpx b1 => (.AND, .zpx, .one b1)
  | .andIzx b1 => (.AND, .izx, .one b1)
  | .andIzy b1 => (.AND, .izy, .one b1)
  | .andAbs a => (.AND, .abs, .two a)
  | .andAbx a => (.AND, .abx, .two a)
  | .andAby a => (.AND, .aby, .two a)
  | .oraImm v => (.ORA, .imm, .one v)
  | .oraZp b1 => (.ORA, .zp, .one b1)
  | .oraZpx b1 => (.ORA, .zpx, .one b1)
  | .oraIzx b1 => (.ORA, .izx, .one b1)
  | .oraIzy b1 => (.ORA, .izy, .one b1)
  | .oraAbs a => (.ORA, .abs, .two a)
  | .oraAbx a => (.ORA, .abx, .two a)
  | .oraAby a => (.ORA, .aby, .two a)
  | .eorImm v => (.EOR, .imm, .one v)
  | .eorZp b1 => (.EOR, .zp, .one b1)
  | .eorZpx b1 => (.EOR, .zpx, .one b1)
  | .eorIzx b1 => (.EOR, .izx, .one b1)
  | .eorIzy b1 => (.EOR, .izy, .one b1)
  | .eorAbs a => (.EOR, .abs, .two a)
  | .eorAbx a => (.EOR, .abx, .two a)
  | .eorAby a => (.EOR, .aby, .two a)
  | .cmpImm v => (.CMP, .imm, .one v)
  | .cmpZp b1 => (.CMP, .zp, .one b1)
  | .cmpZpx b1 => (.CMP, .zpx, .one b1)
  | .cmpIzx b1 => (.CMP, .izx, .one b1)
  | .cmpIzy b1 => (.CMP, .izy, .one b1)
  | .cmpAbs a => (.CMP, .abs, .two a)
  | .cmpAbx a => (.CMP, .abx, .two a)
  | .cmpAby a => (.CMP, .aby, .two a)
  | .cpxImm v => (.CPX, .imm, .one v)
  | .cpxZp b1 => (.CPX, .zp, .one b1)
  | .cpxAbs a => (.CPX, .abs, .two a)
  | .cpyImm v => (.CPY, .imm, .one v)
  | .cpyZp b1 => (.CPY, .zp, .one b1)
  | .cpyAbs a => (.CPY, .abs, .two a)
  | .bitZp b1 => (.BIT, .zp, .one b1)
  | .bitAbs a => (.BIT, .abs, .two a)
  | .incZp b1 => (.INC, .zp, .one b1)
  | .incZpx b1 => (.INC, .zpx, .one b1)
  | .incAbs a => (.INC, .abs, .two a)
  | .incAbx a => (.INC, .abx, .two a)
  | .decZp b1 => (.DEC, .zp, .one b1)
  | .decZpx b1 => (.DEC, .zpx, .one b1)
  | .decAbs a => (.DEC, .abs, .two a)
  | .decAbx a => (.DEC, .abx, .two a)
  | .inx => (.INX, .imp, .none)
  | .iny => (.INY, .imp, .none)
  | .dex => (.DEX, .imp, .none)
  | .dey => (.DEY, .imp, .none)
  | .aslAcc => (.ASL, .acc, .none)
  | .aslZp b1 => (.ASL, .zp, .one b1)
  | .aslZpx b1 => (.ASL, .zpx, .one b1)
  | .aslAbs a => (.ASL, .abs, .two a)
  | .aslAbx a => (.ASL, .abx, .two a)
  | .lsrAcc => (.LSR, .acc, .none)
  | .lsrZp b1 => (.LSR, .zp, .one b1)
  | .lsrZpx b1 => (.LSR, .zpx, .one b1)
  | .lsrAbs a => (.LSR, .abs, .two a)
  | .lsrAbx a => (.LSR, .abx, .two a)
  | .rolAcc => (.ROL, .acc, .none)
  | .rolZp b1 => (.ROL, .zp, .one b1)
  | .rolZpx b1 => (.ROL, .zpx, .one b1)
  | .rolAbs a => (.ROL, .abs, .two a)
  | .rolAbx a => (.ROL, .abx, .two a)
  | .rorAcc => (.ROR, .acc, .none)
  | .rorZp b1 => (.ROR, .zp, .one b1)
  | .rorZpx b1 => (.ROR, .zpx, .one b1)
  | .rorAbs a => (.ROR, .abs, .two a)
  | .rorAbx a => (.ROR, .abx, .two a)
  | .jmpAbs a => (.JMP, .abs, .two a)
  | .jmpInd a => (.JMP, .ind, .two a)
  | .jsr a => (.JSR, .abs, .two a)
  | .rts => (.RTS, .imp, .none)
  | .rti => (.RTI, .imp, .none)
  | .bcc b1 => (.BCC, .rel, .one b1)
  | .bcs b1 => (.BCS, .rel, .one b1)
  | .beq b1 => (.BEQ, .rel, .one b1)
  | .bne b1 => (.BNE, .rel, .one b1)
  | .bmi b1 => (.BMI, .rel, .one b1)
  | .bpl b1 => (.BPL, .rel, .one b1)
  | .bvc b1 => (.BVC, .rel, .one b1)
  | .bvs b1 => (.BVS, .rel, .one b1)
  | .pha => (.PHA, .imp, .none)
  | .php => (.PHP, .imp, .none)
  | .pla => (.PLA, .imp, .none)
  | .plp => (.PLP, .imp, .none)
  | .clc => (.CLC, .imp, .none)
  | .sec => (.SEC, .imp, .none)
  | .cli => (.CLI, .imp, .none)
  | .sei => (.SEI, .imp, .none)
  | .cld => (.CLD, .imp, .none)
  | .sed => (.SED, .imp, .none)
  | .clv => (.CLV, .imp, .none)
  | .nop => (.NOP, .imp, .none)
  | .brk => (.BRK, .imp, .none)

def Instr.mnemonic (i : Instr) : Mnemonic := i.parts.1

def Instr.mode (i : Instr) : Mode := i.parts.2.1

def Instr.operand (i : Instr) : OperandBytes := i.parts.2.2

end Sys2Proof
end

