-- ==== Sys2Proof/WellFormed.lean ====
section
/-!
DEFINITION. Well-formedness. Operand values need no check: every byte and every 16-bit operand is legal
(20_memory.md R59, 40_flags_addressing_step.md R115), and the types of `Instr` carry their widths. What can
be ill formed is a table entry (30_encoding.md R90), a table (00_scope.md R7), and an instruction that the
table at hand does not have.
-/

namespace Sys2Proof

/-- `LEN(tag)`: the length column of R83, opcode byte included. -/
def Mode.len : Mode → Nat
  | .imp | .acc => 1
  | .imm | .zp | .zpx | .zpy | .izx | .izy | .rel => 2
  | .abs | .abx | .aby | .ind => 3

/-- The modes a mnemonic's rule admits: the "entries" column of R88, as R90 reads it. -/
def Mnemonic.modes : Mnemonic → List Mode
  | .LDA => [.imm, .zp, .zpx, .izx, .izy, .abs, .abx, .aby]
  | .LDX => [.imm, .zp, .zpy, .abs, .aby]
  | .LDY => [.imm, .zp, .zpx, .abs, .abx]
  | .STA => [.zp, .zpx, .izx, .izy, .abs, .abx, .aby]
  | .STX => [.zp, .zpy, .abs]
  | .STY => [.zp, .zpx, .abs]
  | .TAX => [.imp]
  | .TAY => [.imp]
  | .TXA => [.imp]
  | .TYA => [.imp]
  | .TSX => [.imp]
  | .TXS => [.imp]
  | .ADC => [.imm, .zp, .zpx, .izx, .izy, .abs, .abx, .aby]
  | .SBC => [.imm, .zp, .zpx, .izx, .izy, .abs, .abx, .aby]
  | .AND => [.imm, .zp, .zpx, .izx, .izy, .abs, .abx, .aby]
  | .ORA => [.imm, .zp, .zpx, .izx, .izy, .abs, .abx, .aby]
  | .EOR => [.imm, .zp, .zpx, .izx, .izy, .abs, .abx, .aby]
  | .CMP => [.imm, .zp, .zpx, .izx, .izy, .abs, .abx, .aby]
  | .CPX => [.imm, .zp, .abs]
  | .CPY => [.imm, .zp, .abs]
  | .BIT => [.zp, .abs]
  | .INC => [.zp, .zpx, .abs, .abx]
  | .DEC => [.zp, .zpx, .abs, .abx]
  | .INX => [.imp]
  | .INY => [.imp]
  | .DEX => [.imp]
  | .DEY => [.imp]
  | .ASL => [.acc, .zp, .zpx, .abs, .abx]
  | .LSR => [.acc, .zp, .zpx, .abs, .abx]
  | .ROL => [.acc, .zp, .zpx, .abs, .abx]
  | .ROR => [.acc, .zp, .zpx, .abs, .abx]
  | .JMP => [.abs, .ind]
  | .JSR => [.abs]
  | .RTS => [.imp]
  | .RTI => [.imp]
  | .BCC => [.rel]
  | .BCS => [.rel]
  | .BEQ => [.rel]
  | .BNE => [.rel]
  | .BMI => [.rel]
  | .BPL => [.rel]
  | .BVC => [.rel]
  | .BVS => [.rel]
  | .PHA => [.imp]
  | .PHP => [.imp]
  | .PLA => [.imp]
  | .PLP => [.imp]
  | .CLC => [.imp]
  | .SEC => [.imp]
  | .CLI => [.imp]
  | .SEI => [.imp]
  | .CLD => [.imp]
  | .SED => [.imp]
  | .CLV => [.imp]
  | .NOP => [.imp]
  | .BRK => [.imp]

/-- R90: the tag is one of the thirteen, the length is `LEN` of it, and the mnemonic admits it. -/
def Entry.wf (e : Entry) : Bool :=
  match e.mode with
  | none => false
  | some m => decide (e.length = m.len) && decide (m ∈ e.mnemonic.modes)

/-- Every entry is well formed and no opcode byte has two entries (R80, R90). -/
def OpTable.wf (tbl : OpTable) : Bool :=
  tbl.all Entry.wf && decide ((tbl.map Entry.opcode).Nodup)

/-- R7 and D1: an admissible `OPTABLE` is well formed, has `0x00` as BRK and `0xA9` as LDA immediate, and
has no entry for `0xFF`. -/
def OpTable.admissible (tbl : OpTable) : Bool :=
  tbl.wf && decide ((⟨0x00, .BRK, some .imp, 1⟩ : Entry) ∈ tbl)
    && decide ((⟨0xA9, .LDA, some .imm, 2⟩ : Entry) ∈ tbl)
    && tbl.all fun e => decide (e.opcode ≠ 0xFF)

/-- An instruction is well formed for a table that has an entry with its mnemonic and mode. -/
def Instr.wf (tbl : OpTable) (i : Instr) : Bool :=
  tbl.any fun e => e.wf && decide (e.mnemonic = i.mnemonic ∧ e.mode = some i.mode)

end Sys2Proof
end

