-- ==== Sys2Proof/Decode.lean ====
section
/-!
DEFINITION. The opcode tables (30_encoding.md R87, R88; 00_scope.md R7), the decoder (R80 to R85, R94) and
after it the encoder. `T151` is written in the order of the 16 x 16 map of R89 (one piece per high nibble),
the encoder's opcode bytes in the order of R88: that the two agree is proved, not assumed.
-/

namespace Sys2Proof

/-- `zext_16` of R8. -/
def zext16 (b : Byte) : Addr := b.setWidth 16

/-- `sext_16` of R8: the byte read as two's complement. -/
def sext16 (b : Byte) : Addr := b.signExtend 16

/-- `{hi, lo}` of R8: `hi * 256 + lo`. -/
def join (hi lo : Byte) : Addr := hi ++ lo

/-- `w[7:0]`. -/
def loByte (w : Addr) : Byte := w.extractLsb' 0 8

/-- `w[15:8]`. -/
def hiByte (w : Addr) : Byte := w.extractLsb' 8 8

/-- One row of a table. -/
def row (opcode : Byte) (mn : Mnemonic) (m : Mode) (length : Nat) : Entry := ⟨opcode, mn, some m, length⟩

/-- Row 0x of the map of R89. -/
def t151Row0 : OpTable :=
  [row 0x00 .BRK .imp 1, row 0x01 .ORA .izx 2, row 0x05 .ORA .zp 2, row 0x06 .ASL .zp 2,
   row 0x08 .PHP .imp 1, row 0x09 .ORA .imm 2, row 0x0A .ASL .acc 1, row 0x0D .ORA .abs 3,
   row 0x0E .ASL .abs 3]

/-- Row 1x of the map of R89. -/
def t151Row1 : OpTable :=
  [row 0x10 .BPL .rel 2, row 0x11 .ORA .izy 2, row 0x15 .ORA .zpx 2, row 0x16 .ASL .zpx 2,
   row 0x18 .CLC .imp 1, row 0x19 .ORA .aby 3, row 0x1D .ORA .abx 3, row 0x1E .ASL .abx 3]

/-- Row 2x of the map of R89. -/
def t151Row2 : OpTable :=
  [row 0x20 .JSR .abs 3, row 0x21 .AND .izx 2, row 0x24 .BIT .zp 2, row 0x25 .AND .zp 2,
   row 0x26 .ROL .zp 2, row 0x28 .PLP .imp 1, row 0x29 .AND .imm 2, row 0x2A .ROL .acc 1,
   row 0x2C .BIT .abs 3, row 0x2D .AND .abs 3, row 0x2E .ROL .abs 3]

/-- Row 3x of the map of R89. -/
def t151Row3 : OpTable :=
  [row 0x30 .BMI .rel 2, row 0x31 .AND .izy 2, row 0x35 .AND .zpx 2, row 0x36 .ROL .zpx 2,
   row 0x38 .SEC .imp 1, row 0x39 .AND .aby 3, row 0x3D .AND .abx 3, row 0x3E .ROL .abx 3]

/-- Row 4x of the map of R89. -/
def t151Row4 : OpTable :=
  [row 0x40 .RTI .imp 1, row 0x41 .EOR .izx 2, row 0x45 .EOR .zp 2, row 0x46 .LSR .zp 2,
   row 0x48 .PHA .imp 1, row 0x49 .EOR .imm 2, row 0x4A .LSR .acc 1, row 0x4C .JMP .abs 3,
   row 0x4D .EOR .abs 3, row 0x4E .LSR .abs 3]

/-- Row 5x of the map of R89. -/
def t151Row5 : OpTable :=
  [row 0x50 .BVC .rel 2, row 0x51 .EOR .izy 2, row 0x55 .EOR .zpx 2, row 0x56 .LSR .zpx 2,
   row 0x58 .CLI .imp 1, row 0x59 .EOR .aby 3, row 0x5D .EOR .abx 3, row 0x5E .LSR .abx 3]

/-- Row 6x of the map of R89. -/
def t151Row6 : OpTable :=
  [row 0x60 .RTS .imp 1, row 0x61 .ADC .izx 2, row 0x65 .ADC .zp 2, row 0x66 .ROR .zp 2,
   row 0x68 .PLA .imp 1, row 0x69 .ADC .imm 2, row 0x6A .ROR .acc 1, row 0x6C .JMP .ind 3,
   row 0x6D .ADC .abs 3, row 0x6E .ROR .abs 3]

/-- Row 7x of the map of R89. -/
def t151Row7 : OpTable :=
  [row 0x70 .BVS .rel 2, row 0x71 .ADC .izy 2, row 0x75 .ADC .zpx 2, row 0x76 .ROR .zpx 2,
   row 0x78 .SEI .imp 1, row 0x79 .ADC .aby 3, row 0x7D .ADC .abx 3, row 0x7E .ROR .abx 3]

/-- Row 8x of the map of R89. -/
def t151Row8 : OpTable :=
  [row 0x81 .STA .izx 2, row 0x84 .STY .zp 2, row 0x85 .STA .zp 2, row 0x86 .STX .zp 2,
   row 0x88 .DEY .imp 1, row 0x8A .TXA .imp 1, row 0x8C .STY .abs 3, row 0x8D .STA .abs 3,
   row 0x8E .STX .abs 3]

/-- Row 9x of the map of R89. -/
def t151Row9 : OpTable :=
  [row 0x90 .BCC .rel 2, row 0x91 .STA .izy 2, row 0x94 .STY .zpx 2, row 0x95 .STA .zpx 2,
   row 0x96 .STX .zpy 2, row 0x98 .TYA .imp 1, row 0x99 .STA .aby 3, row 0x9A .TXS .imp 1,
   row 0x9D .STA .abx 3]

/-- Row Ax of the map of R89. -/
def t151RowA : OpTable :=
  [row 0xA0 .LDY .imm 2, row 0xA1 .LDA .izx 2, row 0xA2 .LDX .imm 2, row 0xA4 .LDY .zp 2,
   row 0xA5 .LDA .zp 2, row 0xA6 .LDX .zp 2, row 0xA8 .TAY .imp 1, row 0xA9 .LDA .imm 2,
   row 0xAA .TAX .imp 1, row 0xAC .LDY .abs 3, row 0xAD .LDA .abs 3, row 0xAE .LDX .abs 3]

/-- Row Bx of the map of R89. -/
def t151RowB : OpTable :=
  [row 0xB0 .BCS .rel 2, row 0xB1 .LDA .izy 2, row 0xB4 .LDY .zpx 2, row 0xB5 .LDA .zpx 2,
   row 0xB6 .LDX .zpy 2, row 0xB8 .CLV .imp 1, row 0xB9 .LDA .aby 3, row 0xBA .TSX .imp 1,
   row 0xBC .LDY .abx 3, row 0xBD .LDA .abx 3, row 0xBE .LDX .aby 3]

/-- Row Cx of the map of R89. -/
def t151RowC : OpTable :=
  [row 0xC0 .CPY .imm 2, row 0xC1 .CMP .izx 2, row 0xC4 .CPY .zp 2, row 0xC5 .CMP .zp 2,
   row 0xC6 .DEC .zp 2, row 0xC8 .INY .imp 1, row 0xC9 .CMP .imm 2, row 0xCA .DEX .imp 1,
   row 0xCC .CPY .abs 3, row 0xCD .CMP .abs 3, row 0xCE .DEC .abs 3]

/-- Row Dx of the map of R89. -/
def t151RowD : OpTable :=
  [row 0xD0 .BNE .rel 2, row 0xD1 .CMP .izy 2, row 0xD5 .CMP .zpx 2, row 0xD6 .DEC .zpx 2,
   row 0xD8 .CLD .imp 1, row 0xD9 .CMP .aby 3, row 0xDD .CMP .abx 3, row 0xDE .DEC .abx 3]

/-- Row Ex of the map of R89. -/
def t151RowE : OpTable :=
  [row 0xE0 .CPX .imm 2, row 0xE1 .SBC .izx 2, row 0xE4 .CPX .zp 2, row 0xE5 .SBC .zp 2,
   row 0xE6 .INC .zp 2, row 0xE8 .INX .imp 1, row 0xE9 .SBC .imm 2, row 0xEA .NOP .imp 1,
   row 0xEC .CPX .abs 3, row 0xED .SBC .abs 3, row 0xEE .INC .abs 3]

/-- Row Fx of the map of R89. -/
def t151RowF : OpTable :=
  [row 0xF0 .BEQ .rel 2, row 0xF1 .SBC .izy 2, row 0xF5 .SBC .zpx 2, row 0xF6 .INC .zpx 2,
   row 0xF8 .SED .imp 1, row 0xF9 .SBC .aby 3, row 0xFD .SBC .abx 3, row 0xFE .INC .abx 3]

/-- The default table `T151`: 151 entries (R88, D1). -/
def T151 : OpTable :=
  t151Row0 ++ t151Row1 ++ t151Row2 ++ t151Row3 ++ t151Row4 ++ t151Row5 ++ t151Row6 ++ t151Row7 ++
  t151Row8 ++ t151Row9 ++ t151RowA ++ t151RowB ++ t151RowC ++ t151RowD ++ t151RowE ++ t151RowF

/-- The least table `T2` (R7, R87): what the source itself fixes. -/
def T2 : OpTable := [row 0x00 .BRK .imp 1, row 0xA9 .LDA .imm 2]

/-- Lookup by opcode byte (R81): the byte alone selects the entry. -/
def OpTable.lookup (tbl : OpTable) (op : Byte) : Option Entry := tbl.find? fun e => e.opcode == op

/-- The instruction of a mnemonic in a mode, with the operand bytes `b1` and `b2` (R84: a 16-bit operand is
`{b2, b1}`); none where R88 does not admit the mode. A mode of length 1 or 2 does not look at the bytes it
does not have. -/
def instrOf (mn : Mnemonic) (m : Mode) (b1 b2 : Byte) : Option Instr :=
  match mn with
  | .LDA => match m with
    | .imm => some (.ldaImm b1) | .zp => some (.ldaZp b1) | .zpx => some (.ldaZpx b1)
    | .izx => some (.ldaIzx b1) | .izy => some (.ldaIzy b1) | .abs => some (.ldaAbs (join b2 b1))
    | .abx => some (.ldaAbx (join b2 b1)) | .aby => some (.ldaAby (join b2 b1))
    | _ => none
  | .LDX => match m with
    | .imm => some (.ldxImm b1) | .zp => some (.ldxZp b1) | .zpy => some (.ldxZpy b1)
    | .abs => some (.ldxAbs (join b2 b1)) | .aby => some (.ldxAby (join b2 b1))
    | _ => none
  | .LDY => match m with
    | .imm => some (.ldyImm b1) | .zp => some (.ldyZp b1) | .zpx => some (.ldyZpx b1)
    | .abs => some (.ldyAbs (join b2 b1)) | .abx => some (.ldyAbx (join b2 b1))
    | _ => none
  | .STA => match m with
    | .zp => some (.staZp b1) | .zpx => some (.staZpx b1) | .izx => some (.staIzx b1)
    | .izy => some (.staIzy b1) | .abs => some (.staAbs (join b2 b1)) | .abx => some (.staAbx (join b2 b1))
    | .aby => some (.staAby (join b2 b1))
    | _ => none
  | .STX => match m with
    | .zp => some (.stxZp b1) | .zpy => some (.stxZpy b1) | .abs => some (.stxAbs (join b2 b1))
    | _ => none
  | .STY => match m with
    | .zp => some (.styZp b1) | .zpx => some (.styZpx b1) | .abs => some (.styAbs (join b2 b1))
    | _ => none
  | .TAX => match m with
    | .imp => some .tax
    | _ => none
  | .TAY => match m with
    | .imp => some .tay
    | _ => none
  | .TXA => match m with
    | .imp => some .txa
    | _ => none
  | .TYA => match m with
    | .imp => some .tya
    | _ => none
  | .TSX => match m with
    | .imp => some .tsx
    | _ => none
  | .TXS => match m with
    | .imp => some .txs
    | _ => none
  | .ADC => match m with
    | .imm => some (.adcImm b1) | .zp => some (.adcZp b1) | .zpx => some (.adcZpx b1)
    | .izx => some (.adcIzx b1) | .izy => some (.adcIzy b1) | .abs => some (.adcAbs (join b2 b1))
    | .abx => some (.adcAbx (join b2 b1)) | .aby => some (.adcAby (join b2 b1))
    | _ => none
  | .SBC => match m with
    | .imm => some (.sbcImm b1) | .zp => some (.sbcZp b1) | .zpx => some (.sbcZpx b1)
    | .izx => some (.sbcIzx b1) | .izy => some (.sbcIzy b1) | .abs => some (.sbcAbs (join b2 b1))
    | .abx => some (.sbcAbx (join b2 b1)) | .aby => some (.sbcAby (join b2 b1))
    | _ => none
  | .AND => match m with
    | .imm => some (.andImm b1) | .zp => some (.andZp b1) | .zpx => some (.andZpx b1)
    | .izx => some (.andIzx b1) | .izy => some (.andIzy b1) | .abs => some (.andAbs (join b2 b1))
    | .abx => some (.andAbx (join b2 b1)) | .aby => some (.andAby (join b2 b1))
    | _ => none
  | .ORA => match m with
    | .imm => some (.oraImm b1) | .zp => some (.oraZp b1) | .zpx => some (.oraZpx b1)
    | .izx => some (.oraIzx b1) | .izy => some (.oraIzy b1) | .abs => some (.oraAbs (join b2 b1))
    | .abx => some (.oraAbx (join b2 b1)) | .aby => some (.oraAby (join b2 b1))
    | _ => none
  | .EOR => match m with
    | .imm => some (.eorImm b1) | .zp => some (.eorZp b1) | .zpx => some (.eorZpx b1)
    | .izx => some (.eorIzx b1) | .izy => some (.eorIzy b1) | .abs => some (.eorAbs (join b2 b1))
    | .abx => some (.eorAbx (join b2 b1)) | .aby => some (.eorAby (join b2 b1))
    | _ => none
  | .CMP => match m with
    | .imm => some (.cmpImm b1) | .zp => some (.cmpZp b1) | .zpx => some (.cmpZpx b1)
    | .izx => some (.cmpIzx b1) | .izy => some (.cmpIzy b1) | .abs => some (.cmpAbs (join b2 b1))
    | .abx => some (.cmpAbx (join b2 b1)) | .aby => some (.cmpAby (join b2 b1))
    | _ => none
  | .CPX => match m with
    | .imm => some (.cpxImm b1) | .zp => some (.cpxZp b1) | .abs => some (.cpxAbs (join b2 b1))
    | _ => none
  | .CPY => match m with
    | .imm => some (.cpyImm b1) | .zp => some (.cpyZp b1) | .abs => some (.cpyAbs (join b2 b1))
    | _ => none
  | .BIT => match m with
    | .zp => some (.bitZp b1) | .abs => some (.bitAbs (join b2 b1))
    | _ => none
  | .INC => match m with
    | .zp => some (.incZp b1) | .zpx => some (.incZpx b1) | .abs => some (.incAbs (join b2 b1))
    | .abx => some (.incAbx (join b2 b1))
    | _ => none
  | .DEC => match m with
    | .zp => some (.decZp b1) | .zpx => some (.decZpx b1) | .abs => some (.decAbs (join b2 b1))
    | .abx => some (.decAbx (join b2 b1))
    | _ => none
  | .INX => match m with
    | .imp => some .inx
    | _ => none
  | .INY => match m with
    | .imp => some .iny
    | _ => none
  | .DEX => match m with
    | .imp => some .dex
    | _ => none
  | .DEY => match m with
    | .imp => some .dey
    | _ => none
  | .ASL => match m with
    | .acc => some .aslAcc | .zp => some (.aslZp b1) | .zpx => some (.aslZpx b1)
    | .abs => some (.aslAbs (join b2 b1)) | .abx => some (.aslAbx (join b2 b1))
    | _ => none
  | .LSR => match m with
    | .acc => some .lsrAcc | .zp => some (.lsrZp b1) | .zpx => some (.lsrZpx b1)
    | .abs => some (.lsrAbs (join b2 b1)) | .abx => some (.lsrAbx (join b2 b1))
    | _ => none
  | .ROL => match m with
    | .acc => some .rolAcc | .zp => some (.rolZp b1) | .zpx => some (.rolZpx b1)
    | .abs => some (.rolAbs (join b2 b1)) | .abx => some (.rolAbx (join b2 b1))
    | _ => none
  | .ROR => match m with
    | .acc => some .rorAcc | .zp => some (.rorZp b1) | .zpx => some (.rorZpx b1)
    | .abs => some (.rorAbs (join b2 b1)) | .abx => some (.rorAbx (join b2 b1))
    | _ => none
  | .JMP => match m with
    | .abs => some (.jmpAbs (join b2 b1)) | .ind => some (.jmpInd (join b2 b1))
    | _ => none
  | .JSR => match m with
    | .abs => some (.jsr (join b2 b1))
    | _ => none
  | .RTS => match m with
    | .imp => some .rts
    | _ => none
  | .RTI => match m with
    | .imp => some .rti
    | _ => none
  | .BCC => match m with
    | .rel => some (.bcc b1)
    | _ => none
  | .BCS => match m with
    | .rel => some (.bcs b1)
    | _ => none
  | .BEQ => match m with
    | .rel => some (.beq b1)
    | _ => none
  | .BNE => match m with
    | .rel => some (.bne b1)
    | _ => none
  | .BMI => match m with
    | .rel => some (.bmi b1)
    | _ => none
  | .BPL => match m with
    | .rel => some (.bpl b1)
    | _ => none
  | .BVC => match m with
    | .rel => some (.bvc b1)
    | _ => none
  | .BVS => match m with
    | .rel => some (.bvs b1)
    | _ => none
  | .PHA => match m with
    | .imp => some .pha
    | _ => none
  | .PHP => match m with
    | .imp => some .php
    | _ => none
  | .PLA => match m with
    | .imp => some .pla
    | _ => none
  | .PLP => match m with
    | .imp => some .plp
    | _ => none
  | .CLC => match m with
    | .imp => some .clc
    | _ => none
  | .SEC => match m with
    | .imp => some .sec
    | _ => none
  | .CLI => match m with
    | .imp => some .cli
    | _ => none
  | .SEI => match m with
    | .imp => some .sei
    | _ => none
  | .CLD => match m with
    | .imp => some .cld
    | _ => none
  | .SED => match m with
    | .imp => some .sed
    | _ => none
  | .CLV => match m with
    | .imp => some .clv
    | _ => none
  | .NOP => match m with
    | .imp => some .nop
    | _ => none
  | .BRK => match m with
    | .imp => some .brk
    | _ => none

/-- The instruction an entry makes of the operand bytes. -/
def Entry.instr (e : Entry) (b1 b2 : Byte) : Option Instr := e.mode.bind fun m => instrOf e.mnemonic m b1 b2

/-- Decoding (R81, R85, R250): no entry is `UnknownOpcode`, an ill-formed entry `InvalidOperand`, any other
entry its instruction. `b0` alone decides which; `b1` and `b2` are the two bytes after it. -/
def decode3 (tbl : OpTable) (b0 b1 b2 : Byte) : Except FaultKind Instr :=
  match tbl.lookup b0 with
  | none => .error .unknownOpcode
  | some e =>
    if e.wf then
      match e.instr b1 b2 with
      | some i => .ok i
      | none => .error .invalidOperand
    else .error .invalidOperand

/-- The length of an instruction, opcode byte included (R82, R83). -/
def Instr.length (i : Instr) : Nat := i.mode.len

/-- Why a byte sequence is not an instruction. -/
inductive DecodeError where
  /-- its first byte is rejected (R245, R246) -/
  | rejected (k : FaultKind)
  /-- the sequence ends before the instruction does -/
  | truncated
  deriving DecidableEq, Repr

/-- Decoding the instruction at the head of a byte sequence: the instruction and the bytes after it (R82). -/
def decode (tbl : OpTable) : List Byte → Except DecodeError (Instr × List Byte)
  | [] => .error .truncated
  | b0 :: rest =>
    match decode3 tbl b0 (rest.getD 0 0) (rest.getD 1 0) with
    | .error k => .error (.rejected k)
    | .ok i => if rest.length + 1 < i.length then .error .truncated else .ok (i, rest.drop (i.length - 1))

/-- The opcode byte of each instruction, as R88 lists it. -/
def Instr.opcode : Instr → Byte
  | .ldaImm _ => 0xA9 | .ldaZp _ => 0xA5 | .ldaZpx _ => 0xB5 | .ldaIzx _ => 0xA1 | .ldaIzy _ => 0xB1 | .ldaAbs _ => 0xAD | .ldaAbx _ => 0xBD | .ldaAby _ => 0xB9
  | .ldxImm _ => 0xA2 | .ldxZp _ => 0xA6 | .ldxZpy _ => 0xB6 | .ldxAbs _ => 0xAE | .ldxAby _ => 0xBE
  | .ldyImm _ => 0xA0 | .ldyZp _ => 0xA4 | .ldyZpx _ => 0xB4 | .ldyAbs _ => 0xAC | .ldyAbx _ => 0xBC
  | .staZp _ => 0x85 | .staZpx _ => 0x95 | .staIzx _ => 0x81 | .staIzy _ => 0x91 | .staAbs _ => 0x8D | .staAbx _ => 0x9D | .staAby _ => 0x99
  | .stxZp _ => 0x86 | .stxZpy _ => 0x96 | .stxAbs _ => 0x8E
  | .styZp _ => 0x84 | .styZpx _ => 0x94 | .styAbs _ => 0x8C
  | .tax => 0xAA
  | .tay => 0xA8
  | .txa => 0x8A
  | .tya => 0x98
  | .tsx => 0xBA
  | .txs => 0x9A
  | .adcImm _ => 0x69 | .adcZp _ => 0x65 | .adcZpx _ => 0x75 | .adcIzx _ => 0x61 | .adcIzy _ => 0x71 | .adcAbs _ => 0x6D | .adcAbx _ => 0x7D | .adcAby _ => 0x79
  | .sbcImm _ => 0xE9 | .sbcZp _ => 0xE5 | .sbcZpx _ => 0xF5 | .sbcIzx _ => 0xE1 | .sbcIzy _ => 0xF1 | .sbcAbs _ => 0xED | .sbcAbx _ => 0xFD | .sbcAby _ => 0xF9
  | .andImm _ => 0x29 | .andZp _ => 0x25 | .andZpx _ => 0x35 | .andIzx _ => 0x21 | .andIzy _ => 0x31 | .andAbs _ => 0x2D | .andAbx _ => 0x3D | .andAby _ => 0x39
  | .oraImm _ => 0x09 | .oraZp _ => 0x05 | .oraZpx _ => 0x15 | .oraIzx _ => 0x01 | .oraIzy _ => 0x11 | .oraAbs _ => 0x0D | .oraAbx _ => 0x1D | .oraAby _ => 0x19
  | .eorImm _ => 0x49 | .eorZp _ => 0x45 | .eorZpx _ => 0x55 | .eorIzx _ => 0x41 | .eorIzy _ => 0x51 | .eorAbs _ => 0x4D | .eorAbx _ => 0x5D | .eorAby _ => 0x59
  | .cmpImm _ => 0xC9 | .cmpZp _ => 0xC5 | .cmpZpx _ => 0xD5 | .cmpIzx _ => 0xC1 | .cmpIzy _ => 0xD1 | .cmpAbs _ => 0xCD | .cmpAbx _ => 0xDD | .cmpAby _ => 0xD9
  | .cpxImm _ => 0xE0 | .cpxZp _ => 0xE4 | .cpxAbs _ => 0xEC
  | .cpyImm _ => 0xC0 | .cpyZp _ => 0xC4 | .cpyAbs _ => 0xCC
  | .bitZp _ => 0x24 | .bitAbs _ => 0x2C
  | .incZp _ => 0xE6 | .incZpx _ => 0xF6 | .incAbs _ => 0xEE | .incAbx _ => 0xFE
  | .decZp _ => 0xC6 | .decZpx _ => 0xD6 | .decAbs _ => 0xCE | .decAbx _ => 0xDE
  | .inx => 0xE8
  | .iny => 0xC8
  | .dex => 0xCA
  | .dey => 0x88
  | .aslAcc => 0x0A | .aslZp _ => 0x06 | .aslZpx _ => 0x16 | .aslAbs _ => 0x0E | .aslAbx _ => 0x1E
  | .lsrAcc => 0x4A | .lsrZp _ => 0x46 | .lsrZpx _ => 0x56 | .lsrAbs _ => 0x4E | .lsrAbx _ => 0x5E
  | .rolAcc => 0x2A | .rolZp _ => 0x26 | .rolZpx _ => 0x36 | .rolAbs _ => 0x2E | .rolAbx _ => 0x3E
  | .rorAcc => 0x6A | .rorZp _ => 0x66 | .rorZpx _ => 0x76 | .rorAbs _ => 0x6E | .rorAbx _ => 0x7E
  | .jmpAbs _ => 0x4C | .jmpInd _ => 0x6C
  | .jsr _ => 0x20
  | .rts => 0x60
  | .rti => 0x40
  | .bcc _ => 0x90
  | .bcs _ => 0xB0
  | .beq _ => 0xF0
  | .bne _ => 0xD0
  | .bmi _ => 0x30
  | .bpl _ => 0x10
  | .bvc _ => 0x50
  | .bvs _ => 0x70
  | .pha => 0x48
  | .php => 0x08
  | .pla => 0x68
  | .plp => 0x28
  | .clc => 0x18
  | .sec => 0x38
  | .cli => 0x58
  | .sei => 0x78
  | .cld => 0xD8
  | .sed => 0xF8
  | .clv => 0xB8
  | .nop => 0xEA
  | .brk => 0x00

/-- The operand bytes in memory order: the low byte of a 16-bit operand first (R82, R84, 20_memory.md R58). -/
def OperandBytes.bytes : OperandBytes → List Byte
  | .none => []
  | .one b1 => [b1]
  | .two a => [loByte a, hiByte a]

/-- The encoder: the bytes of an instruction, opcode first (R82). -/
def encode (i : Instr) : List Byte := i.opcode :: i.operand.bytes

/-- Byte `k` of the number `w` of `nbits` bits, bit 0 the least significant bit of the first byte; the bits
from `nbits` on are 0. -/
def tableByte (nbits w k : Nat) : Byte := BitVec.ofNat 8 (w % 2 ^ nbits / 256 ^ k)

/-- What the decoder reads from an instruction whose bits, numbered as spec/opcode_table.json numbers them,
are `w`. -/
def decodeTableWord (nbits w : Nat) : Option Instr :=
  (decode3 T151 (tableByte nbits w 0) (tableByte nbits w 1) (tableByte nbits w 2)).toOption

end Sys2Proof
end

