-- ==== Sys2Proof/Machine/State.lean ====
section
/-!
DEFINITION. The whole state of the machine (10_state.md): the Register File (R20 to R29), the engine state
(R40), the records it emits and keeps (R41, R42), the event stream (R43) and the Memory Bank (20_memory.md
R50); the reasons a call can stop; the state at construction and after reset.
-/

namespace Sys2Proof.Machine

/-- The seven stored status flags (R26): carry, zero, interrupt-disable, decimal-mode, break-command,
overflow, negative. -/
structure Flags where
  c : Bool
  z : Bool
  i : Bool
  d : Bool
  b : Bool
  v : Bool
  n : Bool
  deriving DecidableEq, Repr

/-- All seven flags clear (R31). -/
def Flags.clear : Flags := ⟨false, false, false, false, false, false, false⟩

/-- The 8-bit registers, as R9 indexes them. -/
inductive Reg where
  | A | X | Y | SP
  deriving DecidableEq, Repr

/-- `engine.state` (R40). -/
inductive EngineState where
  | reset | running | halted | faulted
  deriving DecidableEq, Repr

/-- The only reason to halt (R42, D21). -/
inductive HaltReason where
  | BRK
  deriving DecidableEq, Repr

/-- The record of a halt (R42): `pc` is the address of the BRK opcode byte. -/
structure HaltSignal where
  reason : HaltReason
  pc     : Addr
  deriving DecidableEq, Repr

/-- The record of a fault (R42): the byte fetched and the address it was fetched from. -/
structure FaultSignal where
  kind    : FaultKind
  opcode  : Byte
  address : Addr
  deriving DecidableEq, Repr

/-- What a terminal engine keeps (R40). -/
inductive Signal where
  | halt (h : HaltSignal)
  | fault (f : FaultSignal)
  deriving DecidableEq, Repr

/-- The Execution Snapshot (R41): eleven fields, without `SP`, engine state or memory. -/
structure Snapshot where
  pc : Addr
  a  : Byte
  x  : Byte
  y  : Byte
  c  : Bool
  z  : Bool
  i  : Bool
  d  : Bool
  b  : Bool
  v  : Bool
  n  : Bool
  deriving DecidableEq, Repr

/-- A record of the event stream (R43), and what a `step()` returns (60_exceptions.md R252). -/
inductive Event where
  | snapshot (s : Snapshot)
  | halt (h : HaltSignal)
  | fault (f : FaultSignal)
  deriving DecidableEq, Repr

/-- The Memory Bank (20_memory.md R50) as the list of the bytes that differ from `Config.unlistedByte`, their
addresses strictly rising (`Memory.wf`). -/
abbrev Memory := List Host.Cell

/-- The state of the machine. Nothing else persists between two steps (10_state.md, opening; R46). -/
structure State where
  pc        : Addr
  sp        : Byte
  a         : Byte
  x         : Byte
  y         : Byte
  p         : Flags
  mem       : Memory
  /-- `engine.state` -/
  engine    : EngineState
  /-- `engine.reset_done` -/
  resetDone : Bool
  /-- `engine.term`; `none` is the spec's "absent" -/
  term      : Option Signal
  /-- the event stream, oldest first (log 7) -/
  events    : List Event
  deriving DecidableEq, Repr

/-- The way a host call can fail without being a step's outcome. No step and no instruction answers a fault:
halts and faults of the machine are states of its engine (log 5). -/
inductive Fault where
  /-- Raised by `loadProgram` alone (20_memory.md R54): wrapping is disallowed and the block ends past
  `0xFFFF`. The machine is unchanged and the caller keeps the state it had. Safe: no claim about a state after a failing
  load can be made (log 10). -/
  | outOfBoundsLoad
  deriving DecidableEq, Repr

/-- Why there is no transition. -/
inductive Refusal where
  /-- Raised by `exec` for an instruction without a meaning; no arm of `exec` raises it. Safe: it claims nothing. -/
  | notModelled (mnemonic : String)
  /-- Raised by `step`, `stepCall`, `execute` before the first `reset()` (60_exceptions.md R248). Safe: the spec gives such a
  call no transition, and nothing is claimed (log 6). -/
  | stepBeforeReset
  deriving DecidableEq, Repr

/-- A freshly constructed machine (70_reset_and_hazards.md R285) whose Memory Bank holds `memInit`, the
parameter MEM_INIT of 20_memory.md R56. The registers have no value (R32): each is a free value (log 2). -/
def State.constructed (memInit : Memory) : State where
  pc := Config.unsetPc
  sp := Config.unsetByte 0
  a := Config.unsetByte 1
  x := Config.unsetByte 2
  y := Config.unsetByte 3
  p := ⟨Config.unsetFlag 0, Config.unsetFlag 1, Config.unsetFlag 2, Config.unsetFlag 3, Config.unsetFlag 4,
    Config.unsetFlag 5, Config.unsetFlag 6⟩
  mem := memInit
  engine := .reset
  resetDone := false
  term := none
  events := []

/-- The machine right after the first `reset()` (R31, R280), with nothing listed in memory. `pc` is the word at
`0xFFFC`, which is 0 because of log 1; that this is the state `reset()` leaves is `reset_eq_engineReset`. -/
def State.reset : State where
  pc := 0x0000
  sp := 0xFF
  a := 0x00
  x := 0x00
  y := 0x00
  p := Flags.clear
  mem := []
  engine := .reset
  resetDone := true
  term := none
  events := []

end Sys2Proof.Machine
end

