-- ==== Sys2Proof/Machine/Flags.lean ====
section
/-!
DEFINITION. The Flag Computation Unit (40_flags_addressing_step.md R110 to R113), the packed flag byte
(10_state.md R28), and the one-bit shifts with the bit they shift out (43_shift_rotate.md R190). Pure functions.
-/

namespace Sys2Proof.Machine

/-- `ZN(r)` (R110): Z and N from the result; no other flag. -/
def Flags.zn (p : Flags) (r : Byte) : Flags := { p with z := decide (r = 0), n := r.getLsbD 7 }

/-- `carryFromAddition` (R111): the wrapped sum and the carry out of the exact sum. -/
def carryFromAddition (a b : Byte) (cin : Bool) : Byte × Bool :=
  let t := a.toNat + b.toNat + cin.toNat
  (BitVec.ofNat 8 t, decide (t > 0xFF))

/-- `overflowFromAddition` (R112). -/
def overflowFromAddition (a b r : Byte) : Bool := decide ((a ^^^ r) &&& (b ^^^ r) &&& 0x80 ≠ 0)

/-- A flag as the number R8 reads it as. -/
def bitByte (b : Bool) : Byte := BitVec.ofNat 8 b.toNat

/-- `pack(P)` (R28): `N V 1 B D I Z C`. -/
def Flags.pack (p : Flags) : Byte :=
  BitVec.ofNat 8 (p.n.toNat * 128 + p.v.toNat * 64 + 32 + p.b.toNat * 16 + p.d.toNat * 8 + p.i.toNat * 4
    + p.z.toNat * 2 + p.c.toNat)

/-- `unpack(b)` (R28): bit 5 is ignored. -/
def Flags.unpack (b : Byte) : Flags where
  n := b.getLsbD 7
  v := b.getLsbD 6
  b := b.getLsbD 4
  d := b.getLsbD 3
  i := b.getLsbD 2
  z := b.getLsbD 1
  c := b.getLsbD 0

/-- `ASL` (R191): the result and the new carry. -/
def aslByte (v : Byte) : Byte × Bool := (v <<< 1, v.getLsbD 7)

/-- `LSR` (R192). -/
def lsrByte (v : Byte) : Byte × Bool := (v >>> 1, v.getLsbD 0)

/-- `ROL` (R193): the old carry becomes bit 0. -/
def rolByte (c : Bool) (v : Byte) : Byte × Bool := (v <<< 1 ||| bitByte c, v.getLsbD 7)

/-- `ROR` (R194): the old carry becomes bit 7. -/
def rorByte (c : Bool) (v : Byte) : Byte × Bool := (v >>> 1 ||| bitByte c <<< 7, v.getLsbD 0)

/-- The flags of a compare (42_arithmetic_logic.md R176): C is "no borrow", Z and N from the difference. -/
def Flags.compare (p : Flags) (r m : Byte) : Flags :=
  Flags.zn { p with c := decide (m.toNat ≤ r.toNat) } (r - m)

end Sys2Proof.Machine
end

