-- ==== Sys2Proof/Machine/Ops.lean ====
section
/-!
DEFINITION. The named operations over memory and registers: the Memory Bank's four operations (20_memory.md R51
to R54), the register accessors (00_scope.md R9), the stack primitives (45_stack_flags_system.md R220), retiring
an instruction (40_flags_addressing_step.md R130), and the one way into a terminal state (60_exceptions.md R243,
R245, R251). There is no return from one: only `reset()` leaves it (R249).
-/

namespace Sys2Proof.Machine

/-! ### The Memory Bank -/

/-- The canonical form: addresses strictly rising and below 65536, no entry that an unlisted address would read as. -/
abbrev Memory.wf (m : Memory) : Prop :=
  m.Pairwise (fun c d => c.1 < d.1) ∧ ∀ c ∈ m, c.1 < Config.memorySize ∧ c.2 ≠ Config.unlistedByte

/-- The byte at key `k` of the sorted list. -/
def Memory.get : Memory → Nat → Byte
  | [], _ => Config.unlistedByte
  | (a, b) :: m, k => if k < a then Config.unlistedByte else if k = a then b else Memory.get m k

/-- `k : v` put in front of `m`, unless an unlisted address reads as `v` anyway. -/
def Memory.consCell (k : Nat) (v : Byte) (m : Memory) : Memory :=
  if v = Config.unlistedByte then m else (k, v) :: m

/-- The list with the byte at key `k` replaced by `v`, in the canonical form again. -/
def Memory.set : Memory → Nat → Byte → Memory
  | [], k, v => Memory.consCell k v []
  | (a, b) :: m, k, v =>
    if k < a then Memory.consCell k v ((a, b) :: m)
    else if k = a then Memory.consCell k v m
    else (a, b) :: Memory.set m k v

/-- `readByte` (R51): the address is taken modulo 65536. -/
def Memory.readByte (m : Memory) (address : Nat) : Byte := m.get (address % Config.memorySize)

/-- `writeByte` (R52): stores `value & 0xFF` at the wrapped address. -/
def Memory.writeByte (m : Memory) (address value : Nat) : Memory :=
  m.set (address % Config.memorySize) (BitVec.ofNat 8 value)

/-- `readWord` (R53): little-endian, the high byte's address wraps modulo 65536 as well. -/
def Memory.readWord (m : Memory) (address : Nat) : Addr := join (m.readByte (address + 1)) (m.readByte address)

/-- The copy loop of `loadBlock` (R54), in the order of increasing index. -/
def Memory.copyBlock (m : Memory) : List Nat → Nat → Memory
  | [], _ => m
  | v :: vs, start => Memory.copyBlock (m.writeByte start v) vs (start + 1)

/-- `loadBlock` (R54): `none` is `OutOfBoundsLoad`, with nothing written. -/
def Memory.loadBlock (m : Memory) (allowWrap : Bool) (bytes : List Nat) (start : Addr) : Option Memory :=
  if allowWrap = false ∧ start.toNat + bytes.length > Config.memorySize then none
  else some (m.copyBlock bytes start.toNat)

/-- `MemRead(a, 1)` (R10). -/
def State.peek (s : State) (a : Addr) : Byte := s.mem.readByte a.toNat

/-- `MemRead(a, 2)` (R10). -/
def State.peekWord (s : State) (a : Addr) : Addr := s.mem.readWord a.toNat

/-- `MemWrite(a, 1, v)` (R10). -/
def State.poke (s : State) (a : Addr) (v : Byte) : State := { s with mem := s.mem.writeByte a.toNat v.toNat }

/-! ### Registers -/

/-- `x[r]` (R9). -/
def State.reg (s : State) : Reg → Byte
  | .A => s.a
  | .X => s.x
  | .Y => s.y
  | .SP => s.sp

/-- `x[r] <- v` (R9). -/
def State.setReg (s : State) (r : Reg) (v : Byte) : State :=
  match r with
  | .A => { s with a := v }
  | .X => { s with x := v }
  | .Y => { s with y := v }
  | .SP => { s with sp := v }

/-- The flag set replaced by `p`. -/
def State.setFlags (s : State) (p : Flags) : State := { s with p := p }

/-- `pc <- target` (R9). -/
def State.setPc (s : State) (target : Addr) : State := { s with pc := target }

/-- `x[r] <- v; ZN(v)`: the end of every load, transfer, logic and register increment. -/
def State.setRegZN (s : State) (r : Reg) (v : Byte) : State := (s.setReg r v).setFlags (s.p.zn v)

/-! ### The stack -/

/-- The address `SP` designates, always in page 1 (10_state.md R22). -/
def stackAddr (sp : Byte) : Addr := 0x0100 + zext16 sp

/-- `push(v)` (R220): store, then decrement. -/
def State.push (s : State) (v : Byte) : State := (s.poke (stackAddr s.sp) v).setReg .SP (s.sp - 1)

/-- The state after `pull()` (R220): `SP` is incremented. -/
def State.pull (s : State) : State := s.setReg .SP (s.sp + 1)

/-- The byte `pull()` returns (R220): read at the incremented `SP`. -/
def State.pulled (s : State) : Byte := s.peek (stackAddr (s.sp + 1))

/-! ### Events, retirement, terminal states -/

/-- The Execution Snapshot of a state (10_state.md R41). -/
def State.snapshot (s : State) : Snapshot :=
  ⟨s.pc, s.a, s.x, s.y, s.p.c, s.p.z, s.p.i, s.p.d, s.p.b, s.p.v, s.p.n⟩

/-- `emit e` (R11; 60_exceptions.md R258). -/
def State.emit (s : State) (e : Event) : State := { s with events := s.events ++ [e] }

/-- The end of a step that retires an instruction (R130): `pc <- npc`, then the Snapshot with the new `pc`. -/
def retire (npc : Addr) (s : State) : State := (s.setPc npc).emit (.snapshot (s.setPc npc).snapshot)

/-- The event that reports a signal. -/
def Signal.event : Signal → Event
  | .halt h => .halt h
  | .fault f => .fault f

/-- The terminal state a signal belongs to (10_state.md R40). -/
def Signal.engineState : Signal → EngineState
  | .halt _ => .halted
  | .fault _ => .faulted

/-- Entering a terminal state (R236, R245, R251): the engine's state and `engine.term` are set and the signal
emitted. No register, flag or memory byte changes. -/
def enterTerminal (sig : Signal) (s : State) : State :=
  State.emit { s with engine := sig.engineState, term := some sig } sig.event

/-- `halt(pc0)` (R236), with `pc0` the program counter. -/
def halt (s : State) : State := enterTerminal (.halt ⟨.BRK, s.pc⟩) s

/-- `raise UnknownOpcode` or `raise InvalidOperand` (R245, R246), with the byte at the program counter. -/
def raiseFault (k : FaultKind) (s : State) : State := enterTerminal (.fault ⟨k, s.peek s.pc, s.pc⟩) s

/-! ### The ways an instruction retires -/

/-- The outcome of a step, or of an instruction. -/
abbrev StepOutcome := Host.Outcome State Fault Refusal

/-- An instruction that falls through (R130, R131): its handler runs and `pc` advances by `length` (10_state.md R24). -/
def advance (length : Nat) (handler : State → State) (s : State) : StepOutcome :=
  .next (retire (s.pc + BitVec.ofNat 16 length) (handler s))

/-- An instruction that assigns `npc` (R131): its handler runs and `pc` becomes `npc`. -/
def redirect (npc : Addr) (handler : State → State) (s : State) : StepOutcome := .next (retire npc (handler s))

end Sys2Proof.Machine
end

