-- ==== Sys2Proof/Machine/Operands.lean ====
section
/-!
DEFINITION. The Addressing Resolver (40_flags_addressing_step.md R115 to R129) and the operand access of
handlers (R128). Each of R115's results has its own type here, so that `val()` and `put()` are asked only where
R128 answers: mode `imp` has no operand; `acc` and `imm` are `Place.acc` and `Source.imm`; every other mode is an
`AddrForm`, whose effective address is `ea`.
-/

namespace Sys2Proof.Machine

/-- The modes that resolve to an address (R119 to R127, R129), with their operand bytes. -/
inductive AddrForm where
  | zp (b1 : Byte) | zpx (b1 : Byte) | zpy (b1 : Byte)
  | abs (a : Addr) | abx (a : Addr) | aby (a : Addr)
  | ind (a : Addr) | izx (b1 : Byte) | izy (b1 : Byte)
  | rel (b1 : Byte)
  deriving DecidableEq, Repr

/-- The effective address. Zero-page sums wrap in 8 bits before they are extended (R120, R121, R126); all others wrap
in 16 (R123, R124, R127, R129); pointers are fetched with `readWord` (R125 to R127, D7). -/
def ea : AddrForm → State → Addr
  | .zp b1, _ => zext16 b1
  | .zpx b1, s => zext16 (b1 + s.x)
  | .zpy b1, s => zext16 (b1 + s.y)
  | .abs a, _ => a
  | .abx a, s => a + zext16 s.x
  | .aby a, s => a + zext16 s.y
  | .ind a, s => s.peekWord a
  | .izx b1, s => s.peekWord (zext16 (b1 + s.x))
  | .izy b1, s => s.peekWord (zext16 b1) + zext16 s.y
  | .rel b1, s => s.pc + 2 + sext16 b1

/-- The operand of an instruction that only reads it. -/
inductive Source where
  | imm (v : Byte)
  | mem (f : AddrForm)
  deriving DecidableEq, Repr

/-- `val()` (R128). -/
def Source.val : Source → State → Byte
  | .imm v, _ => v
  | .mem f, s => s.peek (ea f s)

/-- The operand of a read-modify-write instruction. -/
inductive Place where
  | acc
  | mem (f : AddrForm)
  deriving DecidableEq, Repr

/-- `val()` (R128). -/
def Place.val : Place → State → Byte
  | .acc, s => s.a
  | .mem f, s => s.peek (ea f s)

/-- `put(r)` (R128). -/
def Place.put : Place → Byte → State → State
  | .acc, r, s => s.setReg .A r
  | .mem f, r, s => s.poke (ea f s) r

end Sys2Proof.Machine
end

