-- ==== Sys2Proof/Machine/Arith.lean ====
section
/-!
DEFINITION. Arithmetic, logic, compare, bit-test, increment and decrement instructions
(42_arithmetic_logic.md R170 to R185). `P.D` is not read (R171, D11, log 11).
-/

namespace Sys2Proof.Machine

/-- The addition of R171, for the value `m` that is added: V from the old A, then C, A and ZN. -/
def addToA (m : Byte) (s : State) : State :=
  let r := (carryFromAddition s.a m s.p.c).1
  let c := (carryFromAddition s.a m s.p.c).2
  (s.setReg .A r).setFlags (Flags.zn { s.p with v := overflowFromAddition s.a m r, c := c } r)

/-- `ADC` (R171). -/
def adc (o : Source) (s : State) : State := addToA (o.val s) s

/-- `SBC` (R172): the addition of the complement. -/
def sbc (o : Source) (s : State) : State := addToA (o.val s ^^^ 0xFF) s

/-- `A <- A op val(); ZN(A)` (R173 to R175). -/
def logic (op : Byte → Byte → Byte) (o : Source) (s : State) : State := s.setRegZN .A (op s.a (o.val s))

/-- `CMP`, `CPX`, `CPY` (R176 to R178): flags only. -/
def compare (r : Reg) (o : Source) (s : State) : State := s.setFlags (s.p.compare (s.reg r) (o.val s))

/-- `BIT` (R179): Z from `A & m`, N and V from `m` itself. -/
def bitTest (o : Source) (s : State) : State :=
  s.setFlags { s.p with z := decide (s.a &&& o.val s = 0), n := (o.val s).getLsbD 7, v := (o.val s).getLsbD 6 }

/-- `INC`, `DEC` (R180, R181): one read, one write of the same address, ZN. -/
def stepMem (op : Byte → Byte) (f : AddrForm) (s : State) : State :=
  (s.poke (ea f s) (op (s.peek (ea f s)))).setFlags (s.p.zn (op (s.peek (ea f s))))

/-- `INX`, `INY`, `DEX`, `DEY` (R182 to R185). -/
def stepReg (op : Byte → Byte) (r : Reg) (s : State) : State := s.setRegZN r (op (s.reg r))

/-- `ADC #v`, opcode 0x69 (R171). -/
def execAdcImm (v : Byte) (s : State) : StepOutcome := advance 2 (adc (.imm v)) s

/-- `ADC zp`, opcode 0x65 (R171). -/
def execAdcZp (b1 : Byte) (s : State) : StepOutcome := advance 2 (adc (.mem (.zp b1))) s

/-- `ADC zp,X`, opcode 0x75 (R171). -/
def execAdcZpx (b1 : Byte) (s : State) : StepOutcome := advance 2 (adc (.mem (.zpx b1))) s

/-- `ADC (zp,X)`, opcode 0x61 (R171). -/
def execAdcIzx (b1 : Byte) (s : State) : StepOutcome := advance 2 (adc (.mem (.izx b1))) s

/-- `ADC (zp),Y`, opcode 0x71 (R171). -/
def execAdcIzy (b1 : Byte) (s : State) : StepOutcome := advance 2 (adc (.mem (.izy b1))) s

/-- `ADC abs`, opcode 0x6D (R171). -/
def execAdcAbs (a : Addr) (s : State) : StepOutcome := advance 3 (adc (.mem (.abs a))) s

/-- `ADC abs,X`, opcode 0x7D (R171). -/
def execAdcAbx (a : Addr) (s : State) : StepOutcome := advance 3 (adc (.mem (.abx a))) s

/-- `ADC abs,Y`, opcode 0x79 (R171). -/
def execAdcAby (a : Addr) (s : State) : StepOutcome := advance 3 (adc (.mem (.aby a))) s

/-- `SBC #v`, opcode 0xE9 (R172). -/
def execSbcImm (v : Byte) (s : State) : StepOutcome := advance 2 (sbc (.imm v)) s

/-- `SBC zp`, opcode 0xE5 (R172). -/
def execSbcZp (b1 : Byte) (s : State) : StepOutcome := advance 2 (sbc (.mem (.zp b1))) s

/-- `SBC zp,X`, opcode 0xF5 (R172). -/
def execSbcZpx (b1 : Byte) (s : State) : StepOutcome := advance 2 (sbc (.mem (.zpx b1))) s

/-- `SBC (zp,X)`, opcode 0xE1 (R172). -/
def execSbcIzx (b1 : Byte) (s : State) : StepOutcome := advance 2 (sbc (.mem (.izx b1))) s

/-- `SBC (zp),Y`, opcode 0xF1 (R172). -/
def execSbcIzy (b1 : Byte) (s : State) : StepOutcome := advance 2 (sbc (.mem (.izy b1))) s

/-- `SBC abs`, opcode 0xED (R172). -/
def execSbcAbs (a : Addr) (s : State) : StepOutcome := advance 3 (sbc (.mem (.abs a))) s

/-- `SBC abs,X`, opcode 0xFD (R172). -/
def execSbcAbx (a : Addr) (s : State) : StepOutcome := advance 3 (sbc (.mem (.abx a))) s

/-- `SBC abs,Y`, opcode 0xF9 (R172). -/
def execSbcAby (a : Addr) (s : State) : StepOutcome := advance 3 (sbc (.mem (.aby a))) s

/-- `AND #v`, opcode 0x29 (R173). -/
def execAndImm (v : Byte) (s : State) : StepOutcome := advance 2 (logic (· &&& ·) (.imm v)) s

/-- `AND zp`, opcode 0x25 (R173). -/
def execAndZp (b1 : Byte) (s : State) : StepOutcome := advance 2 (logic (· &&& ·) (.mem (.zp b1))) s

/-- `AND zp,X`, opcode 0x35 (R173). -/
def execAndZpx (b1 : Byte) (s : State) : StepOutcome := advance 2 (logic (· &&& ·) (.mem (.zpx b1))) s

/-- `AND (zp,X)`, opcode 0x21 (R173). -/
def execAndIzx (b1 : Byte) (s : State) : StepOutcome := advance 2 (logic (· &&& ·) (.mem (.izx b1))) s

/-- `AND (zp),Y`, opcode 0x31 (R173). -/
def execAndIzy (b1 : Byte) (s : State) : StepOutcome := advance 2 (logic (· &&& ·) (.mem (.izy b1))) s

/-- `AND abs`, opcode 0x2D (R173). -/
def execAndAbs (a : Addr) (s : State) : StepOutcome := advance 3 (logic (· &&& ·) (.mem (.abs a))) s

/-- `AND abs,X`, opcode 0x3D (R173). -/
def execAndAbx (a : Addr) (s : State) : StepOutcome := advance 3 (logic (· &&& ·) (.mem (.abx a))) s

/-- `AND abs,Y`, opcode 0x39 (R173). -/
def execAndAby (a : Addr) (s : State) : StepOutcome := advance 3 (logic (· &&& ·) (.mem (.aby a))) s

/-- `ORA #v`, opcode 0x09 (R174). -/
def execOraImm (v : Byte) (s : State) : StepOutcome := advance 2 (logic (· ||| ·) (.imm v)) s

/-- `ORA zp`, opcode 0x05 (R174). -/
def execOraZp (b1 : Byte) (s : State) : StepOutcome := advance 2 (logic (· ||| ·) (.mem (.zp b1))) s

/-- `ORA zp,X`, opcode 0x15 (R174). -/
def execOraZpx (b1 : Byte) (s : State) : StepOutcome := advance 2 (logic (· ||| ·) (.mem (.zpx b1))) s

/-- `ORA (zp,X)`, opcode 0x01 (R174). -/
def execOraIzx (b1 : Byte) (s : State) : StepOutcome := advance 2 (logic (· ||| ·) (.mem (.izx b1))) s

/-- `ORA (zp),Y`, opcode 0x11 (R174). -/
def execOraIzy (b1 : Byte) (s : State) : StepOutcome := advance 2 (logic (· ||| ·) (.mem (.izy b1))) s

/-- `ORA abs`, opcode 0x0D (R174). -/
def execOraAbs (a : Addr) (s : State) : StepOutcome := advance 3 (logic (· ||| ·) (.mem (.abs a))) s

/-- `ORA abs,X`, opcode 0x1D (R174). -/
def execOraAbx (a : Addr) (s : State) : StepOutcome := advance 3 (logic (· ||| ·) (.mem (.abx a))) s

/-- `ORA abs,Y`, opcode 0x19 (R174). -/
def execOraAby (a : Addr) (s : State) : StepOutcome := advance 3 (logic (· ||| ·) (.mem (.aby a))) s

/-- `EOR #v`, opcode 0x49 (R175). -/
def execEorImm (v : Byte) (s : State) : StepOutcome := advance 2 (logic (· ^^^ ·) (.imm v)) s

/-- `EOR zp`, opcode 0x45 (R175). -/
def execEorZp (b1 : Byte) (s : State) : StepOutcome := advance 2 (logic (· ^^^ ·) (.mem (.zp b1))) s

/-- `EOR zp,X`, opcode 0x55 (R175). -/
def execEorZpx (b1 : Byte) (s : State) : StepOutcome := advance 2 (logic (· ^^^ ·) (.mem (.zpx b1))) s

/-- `EOR (zp,X)`, opcode 0x41 (R175). -/
def execEorIzx (b1 : Byte) (s : State) : StepOutcome := advance 2 (logic (· ^^^ ·) (.mem (.izx b1))) s

/-- `EOR (zp),Y`, opcode 0x51 (R175). -/
def execEorIzy (b1 : Byte) (s : State) : StepOutcome := advance 2 (logic (· ^^^ ·) (.mem (.izy b1))) s

/-- `EOR abs`, opcode 0x4D (R175). -/
def execEorAbs (a : Addr) (s : State) : StepOutcome := advance 3 (logic (· ^^^ ·) (.mem (.abs a))) s

/-- `EOR abs,X`, opcode 0x5D (R175). -/
def execEorAbx (a : Addr) (s : State) : StepOutcome := advance 3 (logic (· ^^^ ·) (.mem (.abx a))) s

/-- `EOR abs,Y`, opcode 0x59 (R175). -/
def execEorAby (a : Addr) (s : State) : StepOutcome := advance 3 (logic (· ^^^ ·) (.mem (.aby a))) s

/-- `CMP #v`, opcode 0xC9 (R176). -/
def execCmpImm (v : Byte) (s : State) : StepOutcome := advance 2 (compare .A (.imm v)) s

/-- `CMP zp`, opcode 0xC5 (R176). -/
def execCmpZp (b1 : Byte) (s : State) : StepOutcome := advance 2 (compare .A (.mem (.zp b1))) s

/-- `CMP zp,X`, opcode 0xD5 (R176). -/
def execCmpZpx (b1 : Byte) (s : State) : StepOutcome := advance 2 (compare .A (.mem (.zpx b1))) s

/-- `CMP (zp,X)`, opcode 0xC1 (R176). -/
def execCmpIzx (b1 : Byte) (s : State) : StepOutcome := advance 2 (compare .A (.mem (.izx b1))) s

/-- `CMP (zp),Y`, opcode 0xD1 (R176). -/
def execCmpIzy (b1 : Byte) (s : State) : StepOutcome := advance 2 (compare .A (.mem (.izy b1))) s

/-- `CMP abs`, opcode 0xCD (R176). -/
def execCmpAbs (a : Addr) (s : State) : StepOutcome := advance 3 (compare .A (.mem (.abs a))) s

/-- `CMP abs,X`, opcode 0xDD (R176). -/
def execCmpAbx (a : Addr) (s : State) : StepOutcome := advance 3 (compare .A (.mem (.abx a))) s

/-- `CMP abs,Y`, opcode 0xD9 (R176). -/
def execCmpAby (a : Addr) (s : State) : StepOutcome := advance 3 (compare .A (.mem (.aby a))) s

/-- `CPX #v`, opcode 0xE0 (R177). -/
def execCpxImm (v : Byte) (s : State) : StepOutcome := advance 2 (compare .X (.imm v)) s

/-- `CPX zp`, opcode 0xE4 (R177). -/
def execCpxZp (b1 : Byte) (s : State) : StepOutcome := advance 2 (compare .X (.mem (.zp b1))) s

/-- `CPX abs`, opcode 0xEC (R177). -/
def execCpxAbs (a : Addr) (s : State) : StepOutcome := advance 3 (compare .X (.mem (.abs a))) s

/-- `CPY #v`, opcode 0xC0 (R178). -/
def execCpyImm (v : Byte) (s : State) : StepOutcome := advance 2 (compare .Y (.imm v)) s

/-- `CPY zp`, opcode 0xC4 (R178). -/
def execCpyZp (b1 : Byte) (s : State) : StepOutcome := advance 2 (compare .Y (.mem (.zp b1))) s

/-- `CPY abs`, opcode 0xCC (R178). -/
def execCpyAbs (a : Addr) (s : State) : StepOutcome := advance 3 (compare .Y (.mem (.abs a))) s

/-- `BIT zp`, opcode 0x24 (R179). -/
def execBitZp (b1 : Byte) (s : State) : StepOutcome := advance 2 (bitTest (.mem (.zp b1))) s

/-- `BIT abs`, opcode 0x2C (R179). -/
def execBitAbs (a : Addr) (s : State) : StepOutcome := advance 3 (bitTest (.mem (.abs a))) s

/-- `INC zp`, opcode 0xE6 (R180). -/
def execIncZp (b1 : Byte) (s : State) : StepOutcome := advance 2 (stepMem (· + 1) (.zp b1)) s

/-- `INC zp,X`, opcode 0xF6 (R180). -/
def execIncZpx (b1 : Byte) (s : State) : StepOutcome := advance 2 (stepMem (· + 1) (.zpx b1)) s

/-- `INC abs`, opcode 0xEE (R180). -/
def execIncAbs (a : Addr) (s : State) : StepOutcome := advance 3 (stepMem (· + 1) (.abs a)) s

/-- `INC abs,X`, opcode 0xFE (R180). -/
def execIncAbx (a : Addr) (s : State) : StepOutcome := advance 3 (stepMem (· + 1) (.abx a)) s

/-- `DEC zp`, opcode 0xC6 (R181). -/
def execDecZp (b1 : Byte) (s : State) : StepOutcome := advance 2 (stepMem (· - 1) (.zp b1)) s

/-- `DEC zp,X`, opcode 0xD6 (R181). -/
def execDecZpx (b1 : Byte) (s : State) : StepOutcome := advance 2 (stepMem (· - 1) (.zpx b1)) s

/-- `DEC abs`, opcode 0xCE (R181). -/
def execDecAbs (a : Addr) (s : State) : StepOutcome := advance 3 (stepMem (· - 1) (.abs a)) s

/-- `DEC abs,X`, opcode 0xDE (R181). -/
def execDecAbx (a : Addr) (s : State) : StepOutcome := advance 3 (stepMem (· - 1) (.abx a)) s

/-- `INX`, opcode 0xE8 (R182). -/
def execInx (s : State) : StepOutcome := advance 1 (stepReg (· + 1) .X) s

/-- `INY`, opcode 0xC8 (R183). -/
def execIny (s : State) : StepOutcome := advance 1 (stepReg (· + 1) .Y) s

/-- `DEX`, opcode 0xCA (R184). -/
def execDex (s : State) : StepOutcome := advance 1 (stepReg (· - 1) .X) s

/-- `DEY`, opcode 0x88 (R185). -/
def execDey (s : State) : StepOutcome := advance 1 (stepReg (· - 1) .Y) s

end Sys2Proof.Machine
end

