-- ==== Sys2Proof/Machine/Stack.lean ====
section
/-!
DEFINITION. Stack, flag-control and system instructions (45_stack_flags_system.md R220 to R236). The pull of
the flags is here, and `RTI` (44_control_flow.md R204), in Control.lean, uses it.
-/

namespace Sys2Proof.Machine

/-- `A <- pull(); ZN(A)` (R223). -/
def pla (s : State) : State := s.pull.setRegZN .A s.pulled

/-- `unpack(pull())` (R224): all seven flags; bit 5 is ignored. -/
def plp (s : State) : State := s.pull.setFlags (Flags.unpack s.pulled)

/-- `PHA`, opcode 0x48 (R221). -/
def execPha (s : State) : StepOutcome := advance 1 (fun s => s.push s.a) s

/-- `PHP`, opcode 0x08 (R222). -/
def execPhp (s : State) : StepOutcome := advance 1 (fun s => s.push s.p.pack) s

/-- `PLA`, opcode 0x68 (R223). -/
def execPla (s : State) : StepOutcome := advance 1 pla s

/-- `PLP`, opcode 0x28 (R224). -/
def execPlp (s : State) : StepOutcome := advance 1 plp s

/-- `CLC`, opcode 0x18 (R225). -/
def execClc (s : State) : StepOutcome := advance 1 (fun s => s.setFlags { s.p with c := false }) s

/-- `SEC`, opcode 0x38 (R226). -/
def execSec (s : State) : StepOutcome := advance 1 (fun s => s.setFlags { s.p with c := true }) s

/-- `CLI`, opcode 0x58 (R227). -/
def execCli (s : State) : StepOutcome := advance 1 (fun s => s.setFlags { s.p with i := false }) s

/-- `SEI`, opcode 0x78 (R228). -/
def execSei (s : State) : StepOutcome := advance 1 (fun s => s.setFlags { s.p with i := true }) s

/-- `CLD`, opcode 0xD8 (R229). -/
def execCld (s : State) : StepOutcome := advance 1 (fun s => s.setFlags { s.p with d := false }) s

/-- `SED`, opcode 0xF8 (R230). -/
def execSed (s : State) : StepOutcome := advance 1 (fun s => s.setFlags { s.p with d := true }) s

/-- `CLV`, opcode 0xB8 (R231). -/
def execClv (s : State) : StepOutcome := advance 1 (fun s => s.setFlags { s.p with v := false }) s

/-- `NOP`, opcode 0xEA (R232). -/
def execNop (s : State) : StepOutcome := advance 1 id s

/-- `BRK`, opcode 0x00 (R236). -/
def execBrk (s : State) : StepOutcome := .next (halt s)

end Sys2Proof.Machine
end

