-- ==== Sys2Proof/Machine/Control.lean ====
section
/-!
DEFINITION. Control-transfer instructions (44_control_flow.md R200 to R213).
-/

namespace Sys2Proof.Machine

/-- Pushing a word, high byte first (R202). -/
def pushWord (w : Addr) (s : State) : State := (s.push (hiByte w)).push (loByte w)

/-- The word two pulls return, low byte first (R203, R204). -/
def State.pulledWord (s : State) : Addr := join s.pull.pulled s.pulled

/-- The state after two pulls. -/
def pullWord (s : State) : State := s.pull.pull

/-- Common to the eight branches (R205): to `ea` of mode `rel` if `cond`, else to `pc0 + 2`. -/
def branch (cond : Bool) (b1 : Byte) (s : State) : StepOutcome :=
  redirect (if cond then ea (.rel b1) s else s.pc + 2) id s

/-- `JMP abs`, opcode 0x4C (R201). -/
def execJmpAbs (a : Addr) (s : State) : StepOutcome := redirect (ea (.abs a) s) id s

/-- `JMP (abs)`, opcode 0x6C (R201). -/
def execJmpInd (a : Addr) (s : State) : StepOutcome := redirect (ea (.ind a) s) id s

/-- `JSR abs`, opcode 0x20 (R202). -/
def execJsr (a : Addr) (s : State) : StepOutcome := redirect (ea (.abs a) s) (pushWord (s.pc + 2)) s

/-- `RTS`, opcode 0x60 (R203). -/
def execRts (s : State) : StepOutcome := redirect (s.pulledWord + 1) pullWord s

/-- `RTI`, opcode 0x40 (R204). -/
def execRti (s : State) : StepOutcome := redirect (plp s).pulledWord (fun s => pullWord (plp s)) s

/-- `BCC rel`, opcode 0x90 (R206). -/
def execBcc (b1 : Byte) (s : State) : StepOutcome := branch (!s.p.c) b1 s

/-- `BCS rel`, opcode 0xB0 (R207). -/
def execBcs (b1 : Byte) (s : State) : StepOutcome := branch s.p.c b1 s

/-- `BEQ rel`, opcode 0xF0 (R208). -/
def execBeq (b1 : Byte) (s : State) : StepOutcome := branch s.p.z b1 s

/-- `BNE rel`, opcode 0xD0 (R209). -/
def execBne (b1 : Byte) (s : State) : StepOutcome := branch (!s.p.z) b1 s

/-- `BMI rel`, opcode 0x30 (R210). -/
def execBmi (b1 : Byte) (s : State) : StepOutcome := branch s.p.n b1 s

/-- `BPL rel`, opcode 0x10 (R211). -/
def execBpl (b1 : Byte) (s : State) : StepOutcome := branch (!s.p.n) b1 s

/-- `BVC rel`, opcode 0x50 (R212). -/
def execBvc (b1 : Byte) (s : State) : StepOutcome := branch (!s.p.v) b1 s

/-- `BVS rel`, opcode 0x70 (R213). -/
def execBvs (b1 : Byte) (s : State) : StepOutcome := branch s.p.v b1 s

end Sys2Proof.Machine
end

