-- ==== Sys2Proof/Machine/LoadStore.lean ====
section
/-!
DEFINITION. Load, store and register-transfer instructions (41_load_store_transfer.md R150 to R162).
-/

namespace Sys2Proof.Machine

/-- `reg <- val(); ZN(reg)` (R151 to R153). -/
def load (r : Reg) (o : Source) (s : State) : State := s.setRegZN r (o.val s)

/-- `MemWrite(ea, 1, reg)` (R154 to R156): the target is not read. -/
def store (r : Reg) (f : AddrForm) (s : State) : State := s.poke (ea f s) (s.reg r)

/-- `dst <- src; ZN(dst)` (R157 to R161). -/
def moveReg (dst src : Reg) (s : State) : State := s.setRegZN dst (s.reg src)

/-- `SP <- X` with no flag (R162). -/
def txs (s : State) : State := s.setReg .SP s.x

/-- `LDA #v`, opcode 0xA9 (R151). -/
def execLdaImm (v : Byte) (s : State) : StepOutcome := advance 2 (load .A (.imm v)) s

/-- `LDA zp`, opcode 0xA5 (R151). -/
def execLdaZp (b1 : Byte) (s : State) : StepOutcome := advance 2 (load .A (.mem (.zp b1))) s

/-- `LDA zp,X`, opcode 0xB5 (R151). -/
def execLdaZpx (b1 : Byte) (s : State) : StepOutcome := advance 2 (load .A (.mem (.zpx b1))) s

/-- `LDA (zp,X)`, opcode 0xA1 (R151). -/
def execLdaIzx (b1 : Byte) (s : State) : StepOutcome := advance 2 (load .A (.mem (.izx b1))) s

/-- `LDA (zp),Y`, opcode 0xB1 (R151). -/
def execLdaIzy (b1 : Byte) (s : State) : StepOutcome := advance 2 (load .A (.mem (.izy b1))) s

/-- `LDA abs`, opcode 0xAD (R151). -/
def execLdaAbs (a : Addr) (s : State) : StepOutcome := advance 3 (load .A (.mem (.abs a))) s

/-- `LDA abs,X`, opcode 0xBD (R151). -/
def execLdaAbx (a : Addr) (s : State) : StepOutcome := advance 3 (load .A (.mem (.abx a))) s

/-- `LDA abs,Y`, opcode 0xB9 (R151). -/
def execLdaAby (a : Addr) (s : State) : StepOutcome := advance 3 (load .A (.mem (.aby a))) s

/-- `LDX #v`, opcode 0xA2 (R152). -/
def execLdxImm (v : Byte) (s : State) : StepOutcome := advance 2 (load .X (.imm v)) s

/-- `LDX zp`, opcode 0xA6 (R152). -/
def execLdxZp (b1 : Byte) (s : State) : StepOutcome := advance 2 (load .X (.mem (.zp b1))) s

/-- `LDX zp,Y`, opcode 0xB6 (R152). -/
def execLdxZpy (b1 : Byte) (s : State) : StepOutcome := advance 2 (load .X (.mem (.zpy b1))) s

/-- `LDX abs`, opcode 0xAE (R152). -/
def execLdxAbs (a : Addr) (s : State) : StepOutcome := advance 3 (load .X (.mem (.abs a))) s

/-- `LDX abs,Y`, opcode 0xBE (R152). -/
def execLdxAby (a : Addr) (s : State) : StepOutcome := advance 3 (load .X (.mem (.aby a))) s

/-- `LDY #v`, opcode 0xA0 (R153). -/
def execLdyImm (v : Byte) (s : State) : StepOutcome := advance 2 (load .Y (.imm v)) s

/-- `LDY zp`, opcode 0xA4 (R153). -/
def execLdyZp (b1 : Byte) (s : State) : StepOutcome := advance 2 (load .Y (.mem (.zp b1))) s

/-- `LDY zp,X`, opcode 0xB4 (R153). -/
def execLdyZpx (b1 : Byte) (s : State) : StepOutcome := advance 2 (load .Y (.mem (.zpx b1))) s

/-- `LDY abs`, opcode 0xAC (R153). -/
def execLdyAbs (a : Addr) (s : State) : StepOutcome := advance 3 (load .Y (.mem (.abs a))) s

/-- `LDY abs,X`, opcode 0xBC (R153). -/
def execLdyAbx (a : Addr) (s : State) : StepOutcome := advance 3 (load .Y (.mem (.abx a))) s

/-- `STA zp`, opcode 0x85 (R154). -/
def execStaZp (b1 : Byte) (s : State) : StepOutcome := advance 2 (store .A (.zp b1)) s

/-- `STA zp,X`, opcode 0x95 (R154). -/
def execStaZpx (b1 : Byte) (s : State) : StepOutcome := advance 2 (store .A (.zpx b1)) s

/-- `STA (zp,X)`, opcode 0x81 (R154). -/
def execStaIzx (b1 : Byte) (s : State) : StepOutcome := advance 2 (store .A (.izx b1)) s

/-- `STA (zp),Y`, opcode 0x91 (R154). -/
def execStaIzy (b1 : Byte) (s : State) : StepOutcome := advance 2 (store .A (.izy b1)) s

/-- `STA abs`, opcode 0x8D (R154). -/
def execStaAbs (a : Addr) (s : State) : StepOutcome := advance 3 (store .A (.abs a)) s

/-- `STA abs,X`, opcode 0x9D (R154). -/
def execStaAbx (a : Addr) (s : State) : StepOutcome := advance 3 (store .A (.abx a)) s

/-- `STA abs,Y`, opcode 0x99 (R154). -/
def execStaAby (a : Addr) (s : State) : StepOutcome := advance 3 (store .A (.aby a)) s

/-- `STX zp`, opcode 0x86 (R155). -/
def execStxZp (b1 : Byte) (s : State) : StepOutcome := advance 2 (store .X (.zp b1)) s

/-- `STX zp,Y`, opcode 0x96 (R155). -/
def execStxZpy (b1 : Byte) (s : State) : StepOutcome := advance 2 (store .X (.zpy b1)) s

/-- `STX abs`, opcode 0x8E (R155). -/
def execStxAbs (a : Addr) (s : State) : StepOutcome := advance 3 (store .X (.abs a)) s

/-- `STY zp`, opcode 0x84 (R156). -/
def execStyZp (b1 : Byte) (s : State) : StepOutcome := advance 2 (store .Y (.zp b1)) s

/-- `STY zp,X`, opcode 0x94 (R156). -/
def execStyZpx (b1 : Byte) (s : State) : StepOutcome := advance 2 (store .Y (.zpx b1)) s

/-- `STY abs`, opcode 0x8C (R156). -/
def execStyAbs (a : Addr) (s : State) : StepOutcome := advance 3 (store .Y (.abs a)) s

/-- `TAX`, opcode 0xAA (R157). -/
def execTax (s : State) : StepOutcome := advance 1 (moveReg .X .A) s

/-- `TAY`, opcode 0xA8 (R158). -/
def execTay (s : State) : StepOutcome := advance 1 (moveReg .Y .A) s

/-- `TXA`, opcode 0x8A (R159). -/
def execTxa (s : State) : StepOutcome := advance 1 (moveReg .A .X) s

/-- `TYA`, opcode 0x98 (R160). -/
def execTya (s : State) : StepOutcome := advance 1 (moveReg .A .Y) s

/-- `TSX`, opcode 0xBA (R161). -/
def execTsx (s : State) : StepOutcome := advance 1 (moveReg .X .SP) s

/-- `TXS`, opcode 0x9A (R162). -/
def execTxs (s : State) : StepOutcome := advance 1 txs s

end Sys2Proof.Machine
end

