-- ==== Sys2Proof/Machine/Shift.lean ====
section
/-!
DEFINITION. Shift and rotate instructions (43_shift_rotate.md R190 to R194), on A or on the byte at `ea`.
-/

namespace Sys2Proof.Machine

/-- Common to the four (R190): `val()`, shift by one, the bit shifted out to C, `put(r)`, `ZN(r)`. -/
def shift (op : Byte → Byte × Bool) (pl : Place) (s : State) : State :=
  (pl.put (op (pl.val s)).1 s).setFlags (Flags.zn { s.p with c := (op (pl.val s)).2 } (op (pl.val s)).1)

/-- `ASL A`, opcode 0x0A (R191). -/
def execAslAcc (s : State) : StepOutcome := advance 1 (shift aslByte .acc) s

/-- `ASL zp`, opcode 0x06 (R191). -/
def execAslZp (b1 : Byte) (s : State) : StepOutcome := advance 2 (shift aslByte (.mem (.zp b1))) s

/-- `ASL zp,X`, opcode 0x16 (R191). -/
def execAslZpx (b1 : Byte) (s : State) : StepOutcome := advance 2 (shift aslByte (.mem (.zpx b1))) s

/-- `ASL abs`, opcode 0x0E (R191). -/
def execAslAbs (a : Addr) (s : State) : StepOutcome := advance 3 (shift aslByte (.mem (.abs a))) s

/-- `ASL abs,X`, opcode 0x1E (R191). -/
def execAslAbx (a : Addr) (s : State) : StepOutcome := advance 3 (shift aslByte (.mem (.abx a))) s

/-- `LSR A`, opcode 0x4A (R192). -/
def execLsrAcc (s : State) : StepOutcome := advance 1 (shift lsrByte .acc) s

/-- `LSR zp`, opcode 0x46 (R192). -/
def execLsrZp (b1 : Byte) (s : State) : StepOutcome := advance 2 (shift lsrByte (.mem (.zp b1))) s

/-- `LSR zp,X`, opcode 0x56 (R192). -/
def execLsrZpx (b1 : Byte) (s : State) : StepOutcome := advance 2 (shift lsrByte (.mem (.zpx b1))) s

/-- `LSR abs`, opcode 0x4E (R192). -/
def execLsrAbs (a : Addr) (s : State) : StepOutcome := advance 3 (shift lsrByte (.mem (.abs a))) s

/-- `LSR abs,X`, opcode 0x5E (R192). -/
def execLsrAbx (a : Addr) (s : State) : StepOutcome := advance 3 (shift lsrByte (.mem (.abx a))) s

/-- `ROL A`, opcode 0x2A (R193). -/
def execRolAcc (s : State) : StepOutcome := advance 1 (shift (rolByte s.p.c) .acc) s

/-- `ROL zp`, opcode 0x26 (R193). -/
def execRolZp (b1 : Byte) (s : State) : StepOutcome := advance 2 (shift (rolByte s.p.c) (.mem (.zp b1))) s

/-- `ROL zp,X`, opcode 0x36 (R193). -/
def execRolZpx (b1 : Byte) (s : State) : StepOutcome := advance 2 (shift (rolByte s.p.c) (.mem (.zpx b1))) s

/-- `ROL abs`, opcode 0x2E (R193). -/
def execRolAbs (a : Addr) (s : State) : StepOutcome := advance 3 (shift (rolByte s.p.c) (.mem (.abs a))) s

/-- `ROL abs,X`, opcode 0x3E (R193). -/
def execRolAbx (a : Addr) (s : State) : StepOutcome := advance 3 (shift (rolByte s.p.c) (.mem (.abx a))) s

/-- `ROR A`, opcode 0x6A (R194). -/
def execRorAcc (s : State) : StepOutcome := advance 1 (shift (rorByte s.p.c) .acc) s

/-- `ROR zp`, opcode 0x66 (R194). -/
def execRorZp (b1 : Byte) (s : State) : StepOutcome := advance 2 (shift (rorByte s.p.c) (.mem (.zp b1))) s

/-- `ROR zp,X`, opcode 0x76 (R194). -/
def execRorZpx (b1 : Byte) (s : State) : StepOutcome := advance 2 (shift (rorByte s.p.c) (.mem (.zpx b1))) s

/-- `ROR abs`, opcode 0x6E (R194). -/
def execRorAbs (a : Addr) (s : State) : StepOutcome := advance 3 (shift (rorByte s.p.c) (.mem (.abs a))) s

/-- `ROR abs,X`, opcode 0x7E (R194). -/
def execRorAbx (a : Addr) (s : State) : StepOutcome := advance 3 (shift (rorByte s.p.c) (.mem (.abx a))) s

end Sys2Proof.Machine
end

