-- ==== Sys2Proof/Machine/Dispatch.lean ====
section
/-!
DEFINITION. The dispatch: one arm per constructor of `Instr`, each one call of that instruction's meaning.
-/

namespace Sys2Proof.Machine

def exec (i : Instr) (s : State) : Host.Outcome State Fault Refusal :=
  match i with
  | .ldaImm v => Sys2Proof.Machine.execLdaImm v s
  | .ldaZp b1 => Sys2Proof.Machine.execLdaZp b1 s
  | .ldaZpx b1 => Sys2Proof.Machine.execLdaZpx b1 s
  | .ldaIzx b1 => Sys2Proof.Machine.execLdaIzx b1 s
  | .ldaIzy b1 => Sys2Proof.Machine.execLdaIzy b1 s
  | .ldaAbs a => Sys2Proof.Machine.execLdaAbs a s
  | .ldaAbx a => Sys2Proof.Machine.execLdaAbx a s
  | .ldaAby a => Sys2Proof.Machine.execLdaAby a s
  | .ldxImm v => Sys2Proof.Machine.execLdxImm v s
  | .ldxZp b1 => Sys2Proof.Machine.execLdxZp b1 s
  | .ldxZpy b1 => Sys2Proof.Machine.execLdxZpy b1 s
  | .ldxAbs a => Sys2Proof.Machine.execLdxAbs a s
  | .ldxAby a => Sys2Proof.Machine.execLdxAby a s
  | .ldyImm v => Sys2Proof.Machine.execLdyImm v s
  | .ldyZp b1 => Sys2Proof.Machine.execLdyZp b1 s
  | .ldyZpx b1 => Sys2Proof.Machine.execLdyZpx b1 s
  | .ldyAbs a => Sys2Proof.Machine.execLdyAbs a s
  | .ldyAbx a => Sys2Proof.Machine.execLdyAbx a s
  | .staZp b1 => Sys2Proof.Machine.execStaZp b1 s
  | .staZpx b1 => Sys2Proof.Machine.execStaZpx b1 s
  | .staIzx b1 => Sys2Proof.Machine.execStaIzx b1 s
  | .staIzy b1 => Sys2Proof.Machine.execStaIzy b1 s
  | .staAbs a => Sys2Proof.Machine.execStaAbs a s
  | .staAbx a => Sys2Proof.Machine.execStaAbx a s
  | .staAby a => Sys2Proof.Machine.execStaAby a s
  | .stxZp b1 => Sys2Proof.Machine.execStxZp b1 s
  | .stxZpy b1 => Sys2Proof.Machine.execStxZpy b1 s
  | .stxAbs a => Sys2Proof.Machine.execStxAbs a s
  | .styZp b1 => Sys2Proof.Machine.execStyZp b1 s
  | .styZpx b1 => Sys2Proof.Machine.execStyZpx b1 s
  | .styAbs a => Sys2Proof.Machine.execStyAbs a s
  | .tax => Sys2Proof.Machine.execTax s
  | .tay => Sys2Proof.Machine.execTay s
  | .txa => Sys2Proof.Machine.execTxa s
  | .tya => Sys2Proof.Machine.execTya s
  | .tsx => Sys2Proof.Machine.execTsx s
  | .txs => Sys2Proof.Machine.execTxs s
  | .adcImm v => Sys2Proof.Machine.execAdcImm v s
  | .adcZp b1 => Sys2Proof.Machine.execAdcZp b1 s
  | .adcZpx b1 => Sys2Proof.Machine.execAdcZpx b1 s
  | .adcIzx b1 => Sys2Proof.Machine.execAdcIzx b1 s
  | .adcIzy b1 => Sys2Proof.Machine.execAdcIzy b1 s
  | .adcAbs a => Sys2Proof.Machine.execAdcAbs a s
  | .adcAbx a => Sys2Proof.Machine.execAdcAbx a s
  | .adcAby a => Sys2Proof.Machine.execAdcAby a s
  | .sbcImm v => Sys2Proof.Machine.execSbcImm v s
  | .sbcZp b1 => Sys2Proof.Machine.execSbcZp b1 s
  | .sbcZpx b1 => Sys2Proof.Machine.execSbcZpx b1 s
  | .sbcIzx b1 => Sys2Proof.Machine.execSbcIzx b1 s
  | .sbcIzy b1 => Sys2Proof.Machine.execSbcIzy b1 s
  | .sbcAbs a => Sys2Proof.Machine.execSbcAbs a s
  | .sbcAbx a => Sys2Proof.Machine.execSbcAbx a s
  | .sbcAby a => Sys2Proof.Machine.execSbcAby a s
  | .andImm v => Sys2Proof.Machine.execAndImm v s
  | .andZp b1 => Sys2Proof.Machine.execAndZp b1 s
  | .andZpx b1 => Sys2Proof.Machine.execAndZpx b1 s
  | .andIzx b1 => Sys2Proof.Machine.execAndIzx b1 s
  | .andIzy b1 => Sys2Proof.Machine.execAndIzy b1 s
  | .andAbs a => Sys2Proof.Machine.execAndAbs a s
  | .andAbx a => Sys2Proof.Machine.execAndAbx a s
  | .andAby a => Sys2Proof.Machine.execAndAby a s
  | .oraImm v => Sys2Proof.Machine.execOraImm v s
  | .oraZp b1 => Sys2Proof.Machine.execOraZp b1 s
  | .oraZpx b1 => Sys2Proof.Machine.execOraZpx b1 s
  | .oraIzx b1 => Sys2Proof.Machine.execOraIzx b1 s
  | .oraIzy b1 => Sys2Proof.Machine.execOraIzy b1 s
  | .oraAbs a => Sys2Proof.Machine.execOraAbs a s
  | .oraAbx a => Sys2Proof.Machine.execOraAbx a s
  | .oraAby a => Sys2Proof.Machine.execOraAby a s
  | .eorImm v => Sys2Proof.Machine.execEorImm v s
  | .eorZp b1 => Sys2Proof.Machine.execEorZp b1 s
  | .eorZpx b1 => Sys2Proof.Machine.execEorZpx b1 s
  | .eorIzx b1 => Sys2Proof.Machine.execEorIzx b1 s
  | .eorIzy b1 => Sys2Proof.Machine.execEorIzy b1 s
  | .eorAbs a => Sys2Proof.Machine.execEorAbs a s
  | .eorAbx a => Sys2Proof.Machine.execEorAbx a s
  | .eorAby a => Sys2Proof.Machine.execEorAby a s
  | .cmpImm v => Sys2Proof.Machine.execCmpImm v s
  | .cmpZp b1 => Sys2Proof.Machine.execCmpZp b1 s
  | .cmpZpx b1 => Sys2Proof.Machine.execCmpZpx b1 s
  | .cmpIzx b1 => Sys2Proof.Machine.execCmpIzx b1 s
  | .cmpIzy b1 => Sys2Proof.Machine.execCmpIzy b1 s
  | .cmpAbs a => Sys2Proof.Machine.execCmpAbs a s
  | .cmpAbx a => Sys2Proof.Machine.execCmpAbx a s
  | .cmpAby a => Sys2Proof.Machine.execCmpAby a s
  | .cpxImm v => Sys2Proof.Machine.execCpxImm v s
  | .cpxZp b1 => Sys2Proof.Machine.execCpxZp b1 s
  | .cpxAbs a => Sys2Proof.Machine.execCpxAbs a s
  | .cpyImm v => Sys2Proof.Machine.execCpyImm v s
  | .cpyZp b1 => Sys2Proof.Machine.execCpyZp b1 s
  | .cpyAbs a => Sys2Proof.Machine.execCpyAbs a s
  | .bitZp b1 => Sys2Proof.Machine.execBitZp b1 s
  | .bitAbs a => Sys2Proof.Machine.execBitAbs a s
  | .incZp b1 => Sys2Proof.Machine.execIncZp b1 s
  | .incZpx b1 => Sys2Proof.Machine.execIncZpx b1 s
  | .incAbs a => Sys2Proof.Machine.execIncAbs a s
  | .incAbx a => Sys2Proof.Machine.execIncAbx a s
  | .decZp b1 => Sys2Proof.Machine.execDecZp b1 s
  | .decZpx b1 => Sys2Proof.Machine.execDecZpx b1 s
  | .decAbs a => Sys2Proof.Machine.execDecAbs a s
  | .decAbx a => Sys2Proof.Machine.execDecAbx a s
  | .inx => Sys2Proof.Machine.execInx s
  | .iny => Sys2Proof.Machine.execIny s
  | .dex => Sys2Proof.Machine.execDex s
  | .dey => Sys2Proof.Machine.execDey s
  | .aslAcc => Sys2Proof.Machine.execAslAcc s
  | .aslZp b1 => Sys2Proof.Machine.execAslZp b1 s
  | .aslZpx b1 => Sys2Proof.Machine.execAslZpx b1 s
  | .aslAbs a => Sys2Proof.Machine.execAslAbs a s
  | .aslAbx a => Sys2Proof.Machine.execAslAbx a s
  | .lsrAcc => Sys2Proof.Machine.execLsrAcc s
  | .lsrZp b1 => Sys2Proof.Machine.execLsrZp b1 s
  | .lsrZpx b1 => Sys2Proof.Machine.execLsrZpx b1 s
  | .lsrAbs a => Sys2Proof.Machine.execLsrAbs a s
  | .lsrAbx a => Sys2Proof.Machine.execLsrAbx a s
  | .rolAcc => Sys2Proof.Machine.execRolAcc s
  | .rolZp b1 => Sys2Proof.Machine.execRolZp b1 s
  | .rolZpx b1 => Sys2Proof.Machine.execRolZpx b1 s
  | .rolAbs a => Sys2Proof.Machine.execRolAbs a s
  | .rolAbx a => Sys2Proof.Machine.execRolAbx a s
  | .rorAcc => Sys2Proof.Machine.execRorAcc s
  | .rorZp b1 => Sys2Proof.Machine.execRorZp b1 s
  | .rorZpx b1 => Sys2Proof.Machine.execRorZpx b1 s
  | .rorAbs a => Sys2Proof.Machine.execRorAbs a s
  | .rorAbx a => Sys2Proof.Machine.execRorAbx a s
  | .jmpAbs a => Sys2Proof.Machine.execJmpAbs a s
  | .jmpInd a => Sys2Proof.Machine.execJmpInd a s
  | .jsr a => Sys2Proof.Machine.execJsr a s
  | .rts => Sys2Proof.Machine.execRts s
  | .rti => Sys2Proof.Machine.execRti s
  | .bcc b1 => Sys2Proof.Machine.execBcc b1 s
  | .bcs b1 => Sys2Proof.Machine.execBcs b1 s
  | .beq b1 => Sys2Proof.Machine.execBeq b1 s
  | .bne b1 => Sys2Proof.Machine.execBne b1 s
  | .bmi b1 => Sys2Proof.Machine.execBmi b1 s
  | .bpl b1 => Sys2Proof.Machine.execBpl b1 s
  | .bvc b1 => Sys2Proof.Machine.execBvc b1 s
  | .bvs b1 => Sys2Proof.Machine.execBvs b1 s
  | .pha => Sys2Proof.Machine.execPha s
  | .php => Sys2Proof.Machine.execPhp s
  | .pla => Sys2Proof.Machine.execPla s
  | .plp => Sys2Proof.Machine.execPlp s
  | .clc => Sys2Proof.Machine.execClc s
  | .sec => Sys2Proof.Machine.execSec s
  | .cli => Sys2Proof.Machine.execCli s
  | .sei => Sys2Proof.Machine.execSei s
  | .cld => Sys2Proof.Machine.execCld s
  | .sed => Sys2Proof.Machine.execSed s
  | .clv => Sys2Proof.Machine.execClv s
  | .nop => Sys2Proof.Machine.execNop s
  | .brk => Sys2Proof.Machine.execBrk s

end Sys2Proof.Machine
end

