-- ==== Sys2Proof/Machine/Engine.lean ====
section
/-!
DEFINITION. The Execution Engine: fetching an instruction's bytes and one `step()` (60_exceptions.md R240 to R252,
40_flags_addressing_step.md R130) for any opcode table; placing an instruction where the next step fetches; what a
step returned.
-/

namespace Sys2Proof.Machine

/-- The bytes at `pc`, `pc + 1`, `pc + 2`, each address modulo 65536 (10_state.md R23, 30_encoding.md R82), decoded.
The operand bytes are passed to a decoder that looks at them only where the entry's mode has them; reads have no
effect (20_memory.md R51), so a byte the spec does not fetch (R94) leaves no trace (log 12). -/
def fetchDecode (tbl : OpTable) (s : State) : Except FaultKind Instr :=
  decode3 tbl (s.peek s.pc) (s.peek (s.pc + 1)) (s.peek (s.pc + 2))

/-- `step_running()` (R130): fetch, decode, and either the fault R245 or R246 describes or the instruction. -/
def stepRunning (tbl : OpTable) (s : State) : StepOutcome :=
  match fetchDecode tbl s with
  | .error k => .next (raiseFault k s)
  | .ok i => exec i s

/-- `step()` (R252) for the opcode table `tbl`: no transition before the first `reset()` (R248); nothing happens
in a terminal state (R244); the first step after `reset()` makes the engine `Running` and executes (R241). -/
def stepWith (tbl : OpTable) (s : State) : StepOutcome :=
  match s.engine with
  | .reset => if s.resetDone then stepRunning tbl { s with engine := .running } else .refused .stepBeforeReset
  | .running => stepRunning tbl s
  | .halted => .next s
  | .faulted => .next s

/-- Whether a `step()` executes an instruction: the engine is armed or running (60_exceptions.md R240). -/
def State.canStep (s : State) : Bool :=
  match s.engine with
  | .reset => s.resetDone
  | .running => true
  | .halted => false
  | .faulted => false

/-- The engine made ready to execute, if it was not: what R249 leaves to `reset()`, without its other effects. -/
def makeReady (s : State) : State :=
  if s.canStep then s else { s with engine := .reset, resetDone := true, term := none }

/-- The three bytes of the number `w` (bits from `nbits` on being 0) at `pc`, `pc + 1`, `pc + 2`, and the engine
ready to execute (log 4). -/
def placeInstr (nbits w : Nat) (s : State) : State :=
  makeReady (((s.poke s.pc (tableByte nbits w 0)).poke (s.pc + 1) (tableByte nbits w 1)).poke (s.pc + 2)
    (tableByte nbits w 2))

/-- What the `step()` that left the machine in this state returned (60_exceptions.md R252, log 8): the stored signal
in a terminal state (R243 to R245), else the Snapshot of the state (R242). -/
def stepReturn (s : State) : Event :=
  match s.term with
  | some sig => sig.event
  | none => .snapshot s.snapshot

/-- Whether the step that left a non-terminal engine in this state retired an instruction (60_exceptions.md R255):
BRK counts, a fault does not. -/
def retiredCount (s : State) : Nat := if s.engine = .faulted then 0 else 1

end Sys2Proof.Machine
end

