-- ==== Sys2Proof/Machine/Step.lean ====
section
/-!
DEFINITION. One `step()` of the machine with the default opcode table, and how the host's test places an
instruction. The functions called are in Machine/Engine.lean.
-/

namespace Sys2Proof.Machine

/-- `step()` with the default table `T151` (00_scope.md R7, D1, log 3). -/
def step (s : State) : Host.Outcome State Fault Refusal := stepWith T151 s

/-- The state with the instruction whose bits are `w` where the next step fetches (log 4). -/
def State.withFetchWord (s : State) (nbits w : Nat) : State := placeInstr nbits w s

end Sys2Proof.Machine
end

