-- ==== Sys2Proof/Machine/HostCalls.lean ====
section
/-!
DEFINITION. The host's calls (60_exceptions.md R252 to R260; 70_reset_and_hazards.md R280 to R287). Each runs to
completion before the next begins (R259), so each is a function of the state. The getters (R260) are the fields of
`State` and `State.peek`.
-/

namespace Sys2Proof.Machine

/-- The Register File's `reset(vectorAddress)` (10_state.md R31). -/
def registerFileReset (vectorAddress : Addr) (s : State) : State :=
  { s with pc := s.peekWord vectorAddress, sp := 0xFF, a := 0x00, x := 0x00, y := 0x00, p := Flags.clear }

/-- The engine's `reset()` (R280), accepted in every engine state. Memory and the event stream are kept. -/
def engineReset (s : State) : State :=
  { registerFileReset Config.resetVector s with engine := .reset, resetDone := true, term := none }

/-- `debugSetPC(address)` (R257): `pc <- address & 0xFFFF` and nothing else. -/
def debugSetPC (address : Nat) (s : State) : State := s.setPc (BitVec.ofNat 16 address)

/-- `loadProgram(bytes, startAddress)` (R284), which is `loadBlock` (20_memory.md R54) and nothing more. A failing
load answers the fault; the caller keeps the state it had (log 10). -/
def loadProgram (allowWrap : Bool) (bytes : List Nat) (start : Addr) (s : State) : StepOutcome :=
  match s.mem.loadBlock allowWrap bytes start with
  | some m => .next { s with mem := m }
  | none => .fault .outOfBoundsLoad

/-- A host call on the machine that another one left, if that one has a next state. -/
def andThen (o : StepOutcome) (call : State → StepOutcome) : StepOutcome :=
  match o with
  | .next s => call s
  | .fault f => .fault f
  | .refused r => .refused r

/-- The two bytes the host loads at the reset vector (R286), the low byte first. -/
def vectorBytes (entry : Addr) : List Nat := [(loByte entry).toNat, (hiByte entry).toNat]

/-- The launch of R286 and R287, up to `execute()`: on a machine constructed with `memInit`, the program is loaded at its
entry address, the vector at `0xFFFC`, and `reset()` is called. -/
def launch (allowWrap : Bool) (program : List Nat) (entry : Addr) (memInit : Memory) : StepOutcome :=
  andThen
    (andThen (loadProgram allowWrap program entry (State.constructed memInit))
      (loadProgram allowWrap (vectorBytes entry) Config.resetVector))
    fun s => .next (engineReset s)

/-- The launch predicate of R287: the machine is what these calls, in this order, leave of a freshly constructed one with
arbitrary MEM_INIT. -/
def Launched (allowWrap : Bool) (program : List Nat) (entry : Addr) (s : State) : Prop :=
  ∃ memInit : Memory, memInit.wf ∧ launch allowWrap program entry memInit = .next s

/-- The canonical launch (R287): LDA #$01 and BRK at `0x0801`. -/
def CanonicalLaunch (s : State) : Prop := Launched Config.allowLoadWrap [0xA9, 0x01, 0x00] 0x0801 s

/-- `step()` with the value it returns (R252): the state after it, and a Snapshot, HaltSignal or FaultSignal. -/
def stepCall (tbl : OpTable) (s : State) : Host.Outcome (State × Event) Fault Refusal :=
  match stepWith tbl s with
  | .next t => .next (t, stepReturn t)
  | .fault f => .fault f
  | .refused r => .refused r

/-- `engine.state` is `Halted` or `Faulted` (00_scope.md R14). -/
def State.terminal (s : State) : Bool :=
  match s.engine with
  | .reset => false
  | .running => false
  | .halted => true
  | .faulted => true

/-- The loop of `execute` (R255) for at most the given number of `step()` calls, with the count of instructions
retired so far. -/
def executeLoop (tbl : OpTable) : Nat → Nat → State → Host.Outcome (State × Nat) Fault Refusal
  | 0, retired, s => .next (s, retired)
  | n + 1, retired, s =>
    if s.terminal then .next (s, retired)
    else
      match stepWith tbl s with
      | .next t => executeLoop tbl n (retired + retiredCount t) t
      | .fault f => .fault f
      | .refused r => .refused r

/-- The report of `execute` (R255). -/
structure TerminationReport where
  state            : EngineState
  instructionCount : Nat
  final            : Snapshot
  signal           : Option Signal
  deriving DecidableEq, Repr

/-- The report on the state the loop ended in. `engine.term` is absent unless the engine is terminal (R40). -/
def report (s : State) (retired : Nat) : TerminationReport :=
  ⟨s.engine, retired, s.snapshot, if s.terminal then s.term else none⟩

/-- `execute(maxSteps)` (R255): no transition before the first `reset()` (R248), even with `maxSteps = 0`. -/
def execute (tbl : OpTable) (maxSteps : Nat) (s : State) : Host.Outcome (State × TerminationReport) Fault Refusal :=
  if s.engine = .reset ∧ s.resetDone = false then .refused .stepBeforeReset
  else
    match executeLoop tbl maxSteps 0 s with
    | .next (t, retired) => .next (t, report t retired)
    | .fault f => .fault f
    | .refused r => .refused r

/-- `execute()` with no `maxSteps` (R255), under `fuel`: `none` if the run has not ended within that many `step()`
calls, about which nothing is said (log 9). -/
def executeUnbounded (tbl : OpTable) (fuel : Nat) (s : State) :
    Option (Host.Outcome (State × TerminationReport) Fault Refusal) :=
  match execute tbl fuel s with
  | .next (t, r) => if t.terminal then some (.next (t, r)) else none
  | .fault f => some (.fault f)
  | .refused r => some (.refused r)

/-- The host calls that can change the machine (R259). -/
inductive HostCall where
  | loadProgram (allowWrap : Bool) (bytes : List Nat) (start : Addr)
  | reset
  | debugSetPC (address : Nat)
  | step
  | execute (maxSteps : Nat)
  deriving DecidableEq, Repr

/-- The machine after a host call. A call that has no transition (R248) or fails (R54) leaves it as it was. -/
def hostCall (tbl : OpTable) (call : HostCall) (s : State) : State :=
  match call with
  | .loadProgram allowWrap bytes start =>
    match loadProgram allowWrap bytes start s with
    | .next t => t
    | .fault _ => s
    | .refused _ => s
  | .reset => engineReset s
  | .debugSetPC address => debugSetPC address s
  | .step =>
    match stepWith tbl s with
    | .next t => t
    | .fault _ => s
    | .refused _ => s
  | .execute maxSteps =>
    match execute tbl maxSteps s with
    | .next (t, _) => t
    | .fault _ => s
    | .refused _ => s

end Sys2Proof.Machine
end

