-- ==== Sys2Proof/Safety.lean ====
section
/-!
DEFINITION. What counts as a safe run, and the invariant of the machine. A run is a sequence of host calls on a
constructed machine (60_exceptions.md R259); it is safe while the engine is not `Faulted`, "the machine's only
'gone wrong'" (R261).
-/

namespace Sys2Proof.Machine

/-- The states that host calls lead to from a constructed machine with initial memory `memInit`. -/
inductive Reachable (tbl : OpTable) (memInit : Memory) : State → Prop where
  | constructed : Reachable tbl memInit (State.constructed memInit)
  | call (s : State) (c : HostCall) : Reachable tbl memInit s → Reachable tbl memInit (hostCall tbl c s)

/-- The engine is not `Faulted` (R261). -/
def State.Safe (s : State) : Prop := s.engine ≠ .faulted

/-- `engine.term` and `engine.state` agree (10_state.md R40, R42): a HaltSignal exactly in `Halted`, a FaultSignal exactly
in `Faulted`, absent otherwise; a stored signal is the last event (60_exceptions.md R243 to R245, R258); only an engine
that was reset has left `Reset` (R240). -/
def EngineCoherent (s : State) : Prop :=
  (match s.engine with
    | .reset => s.term = none
    | .running => s.term = none ∧ s.resetDone = true
    | .halted => (∃ h, s.term = some (.halt h)) ∧ s.resetDone = true
    | .faulted => (∃ f, s.term = some (.fault f)) ∧ s.resetDone = true) ∧
  ∀ sig, s.term = some sig → s.events.getLast? = some sig.event

/-- The invariant: memory is in its canonical form and the engine is coherent. -/
def Inv (s : State) : Prop := s.mem.wf ∧ EngineCoherent s

end Sys2Proof.Machine
end

