-- ==== Sys2Proof/Certificates/Slice0/Obligations.lean ====
section
/-!
DEFINITION. The statements for the provers. Each `Obligations.<Name>` is a claim about the machine; the definitions
before them, under `Sys2Proof.Stated`, are the words the claims are made of: numbers instead of bit vectors where the
spec writes numbers, and for each group of instructions the list of its forms, an opcode byte, the instruction it
decodes to with the operand bytes `b1` and `b2`, what the form works on, and its length (30_encoding.md R88, R83).
-/

namespace Sys2Proof.Stated

open Machine

/-- P.Z of a result (R110). -/
def isZero (r : Byte) : Bool := decide (r.toNat = 0)

/-- P.N of a result (R110): bit 7. -/
def isNeg (r : Byte) : Bool := decide (128 ≤ r.toNat)

/-- Every byte of memory reads in `t` as in `s`. -/
def SameMemory (s t : State) : Prop := ∀ k : Addr, t.peek k = s.peek k

/-- In `t` the byte at `k` is `v`, and every other byte reads as in `s`. -/
def StoresByte (s t : State) (k : Addr) (v : Byte) : Prop := ∀ j : Addr, t.peek j = if j = k then v else s.peek j

/-- Every 8-bit register not in the list is in `t` as in `s`. -/
def SameRegsBut (rs : List Reg) (s t : State) : Prop := ∀ r : Reg, r ∉ rs → t.reg r = s.reg r

/-- Registers and flags, `pc` among them, are in `t` as in `s`. -/
def SameRegisterFile (s t : State) : Prop :=
  t.pc = s.pc ∧ t.sp = s.sp ∧ t.a = s.a ∧ t.x = s.x ∧ t.y = s.y ∧ t.p = s.p

/-- One instruction retired (R130, R242): `pc` is `npc`, the engine is as before, one Snapshot with the new `pc` and
the registers and flags of `t` was emitted. -/
def Retired (s t : State) (npc : Addr) : Prop :=
  t.pc = npc ∧ t.engine = s.engine ∧ t.resetDone = s.resetDone ∧ t.term = s.term ∧
    t.events = s.events ++
      [.snapshot ⟨npc, t.a, t.x, t.y, t.p.c, t.p.z, t.p.i, t.p.d, t.p.b, t.p.v, t.p.n⟩]

/-- The instruction at `pc` is `len` bytes long and control falls through (R24). -/
def RetiredPast (s t : State) (len : Nat) : Prop := Retired s t (BitVec.ofNat 16 (s.pc.toNat + len))

/-- The engine executes an instruction when it is stepped: it is armed or running. -/
def Executes (s : State) : Prop := s.engine = .running ∨ s.engine = .reset ∧ s.resetDone = true

/-- The stack address of R22 as a number. -/
def stackByte (sp : Nat) : Addr := BitVec.ofNat 16 (256 + sp % 256)

/-- LDA, LDX, LDY (R151 to R153). -/
def loadForms (b1 b2 : Byte) : List (Byte × Instr × Reg × Source × Nat) :=
  [(0xA9, .ldaImm b1, .A, .imm b1, 2), (0xA5, .ldaZp b1, .A, .mem (.zp b1), 2),
   (0xB5, .ldaZpx b1, .A, .mem (.zpx b1), 2), (0xA1, .ldaIzx b1, .A, .mem (.izx b1), 2),
   (0xB1, .ldaIzy b1, .A, .mem (.izy b1), 2), (0xAD, .ldaAbs (join b2 b1), .A, .mem (.abs (join b2 b1)), 3),
   (0xBD, .ldaAbx (join b2 b1), .A, .mem (.abx (join b2 b1)), 3),
   (0xB9, .ldaAby (join b2 b1), .A, .mem (.aby (join b2 b1)), 3), (0xA2, .ldxImm b1, .X, .imm b1, 2),
   (0xA6, .ldxZp b1, .X, .mem (.zp b1), 2), (0xB6, .ldxZpy b1, .X, .mem (.zpy b1), 2),
   (0xAE, .ldxAbs (join b2 b1), .X, .mem (.abs (join b2 b1)), 3),
   (0xBE, .ldxAby (join b2 b1), .X, .mem (.aby (join b2 b1)), 3), (0xA0, .ldyImm b1, .Y, .imm b1, 2),
   (0xA4, .ldyZp b1, .Y, .mem (.zp b1), 2), (0xB4, .ldyZpx b1, .Y, .mem (.zpx b1), 2),
   (0xAC, .ldyAbs (join b2 b1), .Y, .mem (.abs (join b2 b1)), 3),
   (0xBC, .ldyAbx (join b2 b1), .Y, .mem (.abx (join b2 b1)), 3)]

/-- STA, STX, STY (R154 to R156). -/
def storeForms (b1 b2 : Byte) : List (Byte × Instr × Reg × AddrForm × Nat) :=
  [(0x85, .staZp b1, .A, .zp b1, 2), (0x95, .staZpx b1, .A, .zpx b1, 2), (0x81, .staIzx b1, .A, .izx b1, 2),
   (0x91, .staIzy b1, .A, .izy b1, 2), (0x8D, .staAbs (join b2 b1), .A, .abs (join b2 b1), 3),
   (0x9D, .staAbx (join b2 b1), .A, .abx (join b2 b1), 3), (0x99, .staAby (join b2 b1), .A, .aby (join b2 b1), 3),
   (0x86, .stxZp b1, .X, .zp b1, 2), (0x96, .stxZpy b1, .X, .zpy b1, 2),
   (0x8E, .stxAbs (join b2 b1), .X, .abs (join b2 b1), 3), (0x84, .styZp b1, .Y, .zp b1, 2),
   (0x94, .styZpx b1, .Y, .zpx b1, 2), (0x8C, .styAbs (join b2 b1), .Y, .abs (join b2 b1), 3)]

/-- The transfers that set flags, with source and destination (R157 to R161). -/
def transferForms : List (Byte × Instr × Reg × Reg × Nat) :=
  [(0xAA, .tax, .A, .X, 1), (0xA8, .tay, .A, .Y, 1), (0x8A, .txa, .X, .A, 1), (0x98, .tya, .Y, .A, 1),
   (0xBA, .tsx, .SP, .X, 1)]

/-- ADC (R171). -/
def adcForms (b1 b2 : Byte) : List (Byte × Instr × Source × Nat) :=
  [(0x69, .adcImm b1, .imm b1, 2), (0x65, .adcZp b1, .mem (.zp b1), 2), (0x75, .adcZpx b1, .mem (.zpx b1), 2),
   (0x61, .adcIzx b1, .mem (.izx b1), 2), (0x71, .adcIzy b1, .mem (.izy b1), 2),
   (0x6D, .adcAbs (join b2 b1), .mem (.abs (join b2 b1)), 3),
   (0x7D, .adcAbx (join b2 b1), .mem (.abx (join b2 b1)), 3),
   (0x79, .adcAby (join b2 b1), .mem (.aby (join b2 b1)), 3)]

/-- SBC (R172). -/
def sbcForms (b1 b2 : Byte) : List (Byte × Instr × Source × Nat) :=
  [(0xE9, .sbcImm b1, .imm b1, 2), (0xE5, .sbcZp b1, .mem (.zp b1), 2), (0xF5, .sbcZpx b1, .mem (.zpx b1), 2),
   (0xE1, .sbcIzx b1, .mem (.izx b1), 2), (0xF1, .sbcIzy b1, .mem (.izy b1), 2),
   (0xED, .sbcAbs (join b2 b1), .mem (.abs (join b2 b1)), 3),
   (0xFD, .sbcAbx (join b2 b1), .mem (.abx (join b2 b1)), 3),
   (0xF9, .sbcAby (join b2 b1), .mem (.aby (join b2 b1)), 3)]

/-- AND, ORA, EOR, with the operation on one bit (R173 to R175). -/
def logicForms (b1 b2 : Byte) : List (Byte × Instr × (Bool → Bool → Bool) × Source × Nat) :=
  [(0x29, .andImm b1, and, .imm b1, 2), (0x25, .andZp b1, and, .mem (.zp b1), 2),
   (0x35, .andZpx b1, and, .mem (.zpx b1), 2), (0x21, .andIzx b1, and, .mem (.izx b1), 2),
   (0x31, .andIzy b1, and, .mem (.izy b1), 2), (0x2D, .andAbs (join b2 b1), and, .mem (.abs (join b2 b1)), 3),
   (0x3D, .andAbx (join b2 b1), and, .mem (.abx (join b2 b1)), 3),
   (0x39, .andAby (join b2 b1), and, .mem (.aby (join b2 b1)), 3), (0x09, .oraImm b1, or, .imm b1, 2),
   (0x05, .oraZp b1, or, .mem (.zp b1), 2), (0x15, .oraZpx b1, or, .mem (.zpx b1), 2),
   (0x01, .oraIzx b1, or, .mem (.izx b1), 2), (0x11, .oraIzy b1, or, .mem (.izy b1), 2),
   (0x0D, .oraAbs (join b2 b1), or, .mem (.abs (join b2 b1)), 3),
   (0x1D, .oraAbx (join b2 b1), or, .mem (.abx (join b2 b1)), 3),
   (0x19, .oraAby (join b2 b1), or, .mem (.aby (join b2 b1)), 3), (0x49, .eorImm b1, xor, .imm b1, 2),
   (0x45, .eorZp b1, xor, .mem (.zp b1), 2), (0x55, .eorZpx b1, xor, .mem (.zpx b1), 2),
   (0x41, .eorIzx b1, xor, .mem (.izx b1), 2), (0x51, .eorIzy b1, xor, .mem (.izy b1), 2),
   (0x4D, .eorAbs (join b2 b1), xor, .mem (.abs (join b2 b1)), 3),
   (0x5D, .eorAbx (join b2 b1), xor, .mem (.abx (join b2 b1)), 3),
   (0x59, .eorAby (join b2 b1), xor, .mem (.aby (join b2 b1)), 3)]

/-- CMP, CPX, CPY (R176 to R178). -/
def compareForms (b1 b2 : Byte) : List (Byte × Instr × Reg × Source × Nat) :=
  [(0xC9, .cmpImm b1, .A, .imm b1, 2), (0xC5, .cmpZp b1, .A, .mem (.zp b1), 2),
   (0xD5, .cmpZpx b1, .A, .mem (.zpx b1), 2), (0xC1, .cmpIzx b1, .A, .mem (.izx b1), 2),
   (0xD1, .cmpIzy b1, .A, .mem (.izy b1), 2), (0xCD, .cmpAbs (join b2 b1), .A, .mem (.abs (join b2 b1)), 3),
   (0xDD, .cmpAbx (join b2 b1), .A, .mem (.abx (join b2 b1)), 3),
   (0xD9, .cmpAby (join b2 b1), .A, .mem (.aby (join b2 b1)), 3), (0xE0, .cpxImm b1, .X, .imm b1, 2),
   (0xE4, .cpxZp b1, .X, .mem (.zp b1), 2), (0xEC, .cpxAbs (join b2 b1), .X, .mem (.abs (join b2 b1)), 3),
   (0xC0, .cpyImm b1, .Y, .imm b1, 2), (0xC4, .cpyZp b1, .Y, .mem (.zp b1), 2),
   (0xCC, .cpyAbs (join b2 b1), .Y, .mem (.abs (join b2 b1)), 3)]

/-- BIT (R179). -/
def bitForms (b1 b2 : Byte) : List (Byte × Instr × AddrForm × Nat) :=
  [(0x24, .bitZp b1, .zp b1, 2), (0x2C, .bitAbs (join b2 b1), .abs (join b2 b1), 3)]

/-- INC, DEC, with what is added modulo 256 (R180, R181). -/
def stepMemForms (b1 b2 : Byte) : List (Byte × Instr × Nat × AddrForm × Nat) :=
  [(0xE6, .incZp b1, 1, .zp b1, 2), (0xF6, .incZpx b1, 1, .zpx b1, 2),
   (0xEE, .incAbs (join b2 b1), 1, .abs (join b2 b1), 3), (0xFE, .incAbx (join b2 b1), 1, .abx (join b2 b1), 3),
   (0xC6, .decZp b1, 255, .zp b1, 2), (0xD6, .decZpx b1, 255, .zpx b1, 2),
   (0xCE, .decAbs (join b2 b1), 255, .abs (join b2 b1), 3),
   (0xDE, .decAbx (join b2 b1), 255, .abx (join b2 b1), 3)]

/-- INX, INY, DEX, DEY, with what is added modulo 256 (R182 to R185). -/
def stepRegForms : List (Byte × Instr × Nat × Reg × Nat) :=
  [(0xE8, .inx, 1, .X, 1), (0xC8, .iny, 1, .Y, 1), (0xCA, .dex, 255, .X, 1), (0x88, .dey, 255, .Y, 1)]

/-- ASL (R191) on numbers: the result and the carry out. -/
def aslNat (_ v : Nat) : Nat × Nat := (2 * v % 256, v / 128)

/-- LSR (R192). -/
def lsrNat (_ v : Nat) : Nat × Nat := (v / 2, v % 2)

/-- ROL (R193), with the carry in. -/
def rolNat (c v : Nat) : Nat × Nat := ((2 * v + c) % 256, v / 128)

/-- ROR (R194), with the carry in. -/
def rorNat (c v : Nat) : Nat × Nat := (v / 2 + 128 * c, v % 2)

/-- The accumulator forms of ASL, LSR, ROL, ROR (R191 to R194). -/
def shiftAccForms : List (Byte × Instr × (Nat → Nat → Nat × Nat) × Nat) :=
  [(0x0A, .aslAcc, aslNat, 1), (0x4A, .lsrAcc, lsrNat, 1), (0x2A, .rolAcc, rolNat, 1), (0x6A, .rorAcc, rorNat, 1)]

/-- The memory forms of ASL, LSR, ROL, ROR (R191 to R194). -/
def shiftMemForms (b1 b2 : Byte) : List (Byte × Instr × (Nat → Nat → Nat × Nat) × AddrForm × Nat) :=
  [(0x06, .aslZp b1, aslNat, .zp b1, 2), (0x16, .aslZpx b1, aslNat, .zpx b1, 2),
   (0x0E, .aslAbs (join b2 b1), aslNat, .abs (join b2 b1), 3),
   (0x1E, .aslAbx (join b2 b1), aslNat, .abx (join b2 b1), 3), (0x46, .lsrZp b1, lsrNat, .zp b1, 2),
   (0x56, .lsrZpx b1, lsrNat, .zpx b1, 2), (0x4E, .lsrAbs (join b2 b1), lsrNat, .abs (join b2 b1), 3),
   (0x5E, .lsrAbx (join b2 b1), lsrNat, .abx (join b2 b1), 3), (0x26, .rolZp b1, rolNat, .zp b1, 2),
   (0x36, .rolZpx b1, rolNat, .zpx b1, 2), (0x2E, .rolAbs (join b2 b1), rolNat, .abs (join b2 b1), 3),
   (0x3E, .rolAbx (join b2 b1), rolNat, .abx (join b2 b1), 3), (0x66, .rorZp b1, rorNat, .zp b1, 2),
   (0x76, .rorZpx b1, rorNat, .zpx b1, 2), (0x6E, .rorAbs (join b2 b1), rorNat, .abs (join b2 b1), 3),
   (0x7E, .rorAbx (join b2 b1), rorNat, .abx (join b2 b1), 3)]

/-- JMP (R201). -/
def jmpForms (b1 b2 : Byte) : List (Byte × Instr × AddrForm) :=
  [(0x4C, .jmpAbs (join b2 b1), .abs (join b2 b1)), (0x6C, .jmpInd (join b2 b1), .ind (join b2 b1))]

/-- The eight branches, with their conditions (R206 to R213). -/
def branchForms (b1 : Byte) : List (Byte × Instr × (Flags → Bool)) :=
  [(0x90, .bcc b1, fun p => !p.c), (0xB0, .bcs b1, fun p => p.c),
   (0xF0, .beq b1, fun p => p.z), (0xD0, .bne b1, fun p => !p.z),
   (0x30, .bmi b1, fun p => p.n), (0x10, .bpl b1, fun p => !p.n),
   (0x50, .bvc b1, fun p => !p.v), (0x70, .bvs b1, fun p => p.v)]

/-- The flag instructions, with the flag set after them (R225 to R231). -/
def flagForms : List (Byte × Instr × (Flags → Flags)) :=
  [(0x18, .clc, fun p => { p with c := false }), (0x38, .sec, fun p => { p with c := true }),
   (0x58, .cli, fun p => { p with i := false }), (0x78, .sei, fun p => { p with i := true }),
   (0xD8, .cld, fun p => { p with d := false }), (0xF8, .sed, fun p => { p with d := true }),
   (0xB8, .clv, fun p => { p with v := false })]

/-- The 105 bytes that R94 lists as unknown under `T151`. -/
def unknownBytes : List Nat :=
  [0x02, 0x03, 0x04, 0x07, 0x0B, 0x0C, 0x0F, 0x12, 0x13, 0x14, 0x17, 0x1A, 0x1B, 0x1C, 0x1F,
   0x22, 0x23, 0x27, 0x2B, 0x2F, 0x32, 0x33, 0x34, 0x37, 0x3A, 0x3B, 0x3C, 0x3F, 0x42, 0x43,
   0x44, 0x47, 0x4B, 0x4F, 0x52, 0x53, 0x54, 0x57, 0x5A, 0x5B, 0x5C, 0x5F, 0x62, 0x63, 0x64,
   0x67, 0x6B, 0x6F, 0x72, 0x73, 0x74, 0x77, 0x7A, 0x7B, 0x7C, 0x7F, 0x80, 0x82, 0x83, 0x87,
   0x89, 0x8B, 0x8F, 0x92, 0x93, 0x97, 0x9B, 0x9C, 0x9E, 0x9F, 0xA3, 0xA7, 0xAB, 0xAF, 0xB2,
   0xB3, 0xB7, 0xBB, 0xBF, 0xC2, 0xC3, 0xC7, 0xCB, 0xCF, 0xD2, 0xD3, 0xD4, 0xD7, 0xDA, 0xDB,
   0xDC, 0xDF, 0xE2, 0xE3, 0xE7, 0xEB, 0xEF, 0xF2, 0xF3, 0xF4, 0xF7, 0xFA, 0xFB, 0xFC, 0xFF]

/-- The flags a byte holds (R28), bit 7 first; bit 5 is not looked at. -/
def flagsOfByte (b : Byte) : Flags where
  n := b.toNat.testBit 7
  v := b.toNat.testBit 6
  b := b.toNat.testBit 4
  d := b.toNat.testBit 3
  i := b.toNat.testBit 2
  z := b.toNat.testBit 1
  c := b.toNat.testBit 0

/-- The byte that holds the flags (R28). -/
def byteOfFlags (p : Flags) : Nat :=
  p.n.toNat * 128 + p.v.toNat * 64 + 32 + p.b.toNat * 16 + p.d.toNat * 8 + p.i.toNat * 4 + p.z.toNat * 2 + p.c.toNat

/-- The signed value of a byte (R112). -/
def signed (b : Byte) : Int := if b.toNat < 128 then b.toNat else (b.toNat : Int) - 256

/-- A signed value does not fit a byte (R112). -/
def overflows (v : Int) : Bool := decide (v < -128 ∨ 127 < v)

/-- The number of records that retire an instruction (R255): Snapshots and HaltSignals. -/
def retiredIn (es : List Event) : Nat :=
  es.countP fun
    | .snapshot _ => true
    | .halt _ => true
    | .fault _ => false

/-- `s` with the three inert flags replaced (R29). -/
def withInert (s : State) (i d b : Bool) : State := { s with p := { s.p with i := i, d := d, b := b } }

/-- A record without what it reports of the three inert flags. -/
def withoutInert : Event → Event
  | .snapshot x => .snapshot { x with i := false, d := false, b := false }
  | .halt h => .halt h
  | .fault f => .fault f

end Sys2Proof.Stated

section

open Sys2Proof Sys2Proof.Machine Sys2Proof.Stated

/-! ### Encoding -/

/-- Words written out from the encodings of 30_encoding.md R97's examples decode to the instructions they stand for. -/
def Obligations.WrittenOutWordsDecode : Prop :=
  decode T151 [0x18] = .ok (.clc, []) ∧
  decode T151 [0x0A] = .ok (.aslAcc, []) ∧
  decode T151 [0xA9, 0x01] = .ok (.ldaImm 0x01, []) ∧
  decode T151 [0xA5, 0x10] = .ok (.ldaZp 0x10, []) ∧
  decode T151 [0xB6, 0x10] = .ok (.ldxZpy 0x10, []) ∧
  decode T151 [0xBD, 0x34, 0x12] = .ok (.ldaAbx 0x1234, []) ∧
  decode T151 [0x6C, 0x34, 0x12] = .ok (.jmpInd 0x1234, []) ∧
  decode T151 [0xD0, 0xFB] = .ok (.bne 0xFB, []) ∧
  decode T151 [0x20, 0x00, 0xC0] = .ok (.jsr 0xC000, []) ∧
  decode T151 [0x00] = .ok (.brk, []) ∧
  decode T151 [0xFF] = .error (.rejected .unknownOpcode)

/-- Decoding an encoded instruction gives it back, every operand at every value, with the bytes after it left over;
its encoding has its length. (30_encoding.md R81, R82, R84, R88.) -/
def Obligations.DecodeOfEncodeIsTheInstruction : Prop :=
  ∀ (i : Instr) (rest : List Byte),
    decode T151 (encode i ++ rest) = .ok (i, rest) ∧ (encode i).length = i.length

/-- The other direction: bytes that decode are the encoding of what they decode to, and the bytes left over. -/
def Obligations.EncodeOfDecodeIsTheBytes : Prop :=
  ∀ (bytes rest : List Byte) (i : Instr), decode T151 bytes = .ok (i, rest) → bytes = encode i ++ rest

/-- For any well-formed table: an opcode byte with the entry of an instruction's mnemonic and mode, followed by the
instruction's operand bytes, decodes to that instruction, and whatever decodes has such an entry.
(30_encoding.md R80, R81, R90.) -/
def Obligations.DecodingFollowsTheTable : Prop :=
  ∀ tbl : OpTable, tbl.wf = true →
    (∀ (i : Instr) (op : Byte) (rest : List Byte), (⟨op, i.mnemonic, some i.mode, i.length⟩ : Entry) ∈ tbl →
      decode tbl (op :: (i.operand.bytes ++ rest)) = .ok (i, rest)) ∧
    (∀ (op : Byte) (more rest : List Byte) (i : Instr), decode tbl (op :: more) = .ok (i, rest) →
      (⟨op, i.mnemonic, some i.mode, i.length⟩ : Entry) ∈ tbl ∧ more = i.operand.bytes ++ rest)

/-- 30_encoding.md R94: the unknown bytes under `T151` and under `T2`; `0xFF` is unknown in every admissible table; an
unknown byte faults whatever bytes follow it, with no effect but the fault's. -/
def Obligations.UnknownBytesAreThoseListed : Prop :=
  (∀ op : Byte, T151.lookup op = none ↔ op.toNat ∈ unknownBytes) ∧
  (∀ op : Byte, T2.lookup op = none ↔ op ≠ 0x00 ∧ op ≠ 0xA9) ∧
  (∀ tbl : OpTable, tbl.admissible = true → tbl.lookup 0xFF = none) ∧
  (∀ (tbl : OpTable) (op b1 b2 : Byte), tbl.lookup op = none ↔ decode3 tbl op b1 b2 = .error .unknownOpcode) ∧
  ∀ (tbl : OpTable) (s : State), Executes s → tbl.lookup (s.peek s.pc) = none →
    ∃ t, stepWith tbl s = .next t ∧ t.engine = .faulted ∧
      t.term = some (.fault ⟨.unknownOpcode, s.peek s.pc, s.pc⟩) ∧ SameRegisterFile s t ∧ t.mem = s.mem

/-! ### The engine -/

/-- A step runs the decoded instruction: where the bytes at `pc` decode to `i`, the step of a running engine is `exec i`,
and the step of an armed engine is that of the engine made `Running` (40_flags_addressing_step.md R130, 60_exceptions.md
R241). -/
def Obligations.StepRunsTheDecodedInstruction : Prop :=
  ∀ (s : State) (i : Instr), decode3 T151 (s.peek s.pc) (s.peek (s.pc + 1)) (s.peek (s.pc + 2)) = .ok i →
    (s.engine = .running → step s = exec i s) ∧
    (s.engine = .reset → s.resetDone = true → step s = exec i { s with engine := .running })

/-- 60_exceptions.md R241: the step of an armed engine is the step of the same machine made `Running`. -/
def Obligations.ArmedEngineStepsAsRunning : Prop :=
  ∀ (tbl : OpTable) (s : State), s.engine = .reset → s.resetDone = true →
    stepWith tbl s = stepWith tbl { s with engine := .running } ∧
    ∀ t, stepWith tbl s = .next t → t.engine ≠ .reset

/-- 60_exceptions.md R245: a byte with no table entry. The fault is stored, emitted and returned; nothing else changes
(the engine, if armed, having become `Running` first). -/
def Obligations.UnknownOpcodeFaults : Prop :=
  ∀ (tbl : OpTable) (s : State), Executes s → tbl.lookup (s.peek s.pc) = none →
    ∃ t, stepCall tbl s = .next (t, .fault ⟨.unknownOpcode, s.peek s.pc, s.pc⟩) ∧ stepWith tbl s = .next t ∧
      t = { s with
        engine := .faulted
        term := some (.fault ⟨.unknownOpcode, s.peek s.pc, s.pc⟩)
        events := s.events ++ [.fault ⟨.unknownOpcode, s.peek s.pc, s.pc⟩] }

/-- 60_exceptions.md R246: a byte whose entry has an unknown mode tag, a length that is not the mode's, or a mode its
mnemonic does not admit. With `T151` or `T2` it never happens. -/
def Obligations.IllFormedEntryFaults : Prop :=
  (∀ (tbl : OpTable) (s : State) (e : Entry), Executes s → tbl.lookup (s.peek s.pc) = some e →
    (e.mode = none ∨ ∃ m, e.mode = some m ∧ (e.length ≠ m.len ∨ m ∉ e.mnemonic.modes)) →
    ∃ t, stepCall tbl s = .next (t, .fault ⟨.invalidOperand, s.peek s.pc, s.pc⟩) ∧ stepWith tbl s = .next t ∧
      t = { s with
        engine := .faulted
        term := some (.fault ⟨.invalidOperand, s.peek s.pc, s.pc⟩)
        events := s.events ++ [.fault ⟨.invalidOperand, s.peek s.pc, s.pc⟩] }) ∧
  ∀ op b1 b2 : Byte, decode3 T151 op b1 b2 ≠ .error .invalidOperand ∧ decode3 T2 op b1 b2 ≠ .error .invalidOperand

/-- 45_stack_flags_system.md R236 and 60_exceptions.md R243: BRK halts. `pc` stays at the BRK byte, the HaltSignal is
stored, emitted and returned, no register, flag or memory byte changes, whatever the two bytes after it are, and BRK counts
as one retired instruction. -/
def Obligations.BrkHalts : Prop :=
  (∀ s : State, ∃ t, exec .brk s = .next t ∧
    t = { s with
      engine := .halted
      term := some (.halt ⟨.BRK, s.pc⟩)
      events := s.events ++ [.halt ⟨.BRK, s.pc⟩] }) ∧
  (∀ b1 b2 : Byte, decode3 T151 0x00 b1 b2 = .ok .brk) ∧
  ∀ s : State, Executes s → s.peek s.pc = 0x00 →
    ∃ t, stepCall T151 s = .next (t, .halt ⟨.BRK, s.pc⟩) ∧ t.engine = .halted ∧ t.term = some (.halt ⟨.BRK, s.pc⟩) ∧
      SameRegisterFile s t ∧ t.mem = s.mem ∧
      execute T151 1 s = .next (t, ⟨.halted, 1, s.snapshot, some (.halt ⟨.BRK, s.pc⟩)⟩)

/-- 60_exceptions.md R244: in a terminal state a step changes nothing and returns the stored signal, `execute()` returns at
once with count 0, and no host call but `reset()` leads out. -/
def Obligations.TerminalStatesStay : Prop :=
  ∀ (tbl : OpTable) (s : State), s.engine = .halted ∨ s.engine = .faulted →
    stepWith tbl s = .next s ∧
    (∀ sig, s.term = some sig → stepCall tbl s = .next (s, sig.event)) ∧
    (∀ n, execute tbl n s = .next (s, ⟨s.engine, 0, s.snapshot, s.term⟩)) ∧
    (∀ c : HostCall, c ≠ .reset → (hostCall tbl c s).engine = s.engine ∧ (hostCall tbl c s).term = s.term) ∧
    (hostCall tbl .reset s).engine = .reset

/-- Before the first `reset()` no step and no execute has a transition (60_exceptions.md R248). In every other state, for any
table, a step answers a next state (R240, R252): no fault and no refusal ends a run. That a halt and a fault of the machine
are next states, not outcomes of another kind, is the model's reading (log 5). -/
def Obligations.NoTransitionExactlyBeforeReset : Prop :=
  (∀ (tbl : OpTable) (s : State), s.engine = .reset → s.resetDone = false →
    stepWith tbl s = .refused .stepBeforeReset ∧ stepCall tbl s = .refused .stepBeforeReset ∧
    ∀ n, execute tbl n s = .refused .stepBeforeReset) ∧
  ∀ (tbl : OpTable) (s : State), ¬(s.engine = .reset ∧ s.resetDone = false) → ∃ t, stepWith tbl s = .next t

/-- A step of an executing engine is all or nothing (40_flags_addressing_step.md R132, which the spec derives from R130):
it retires an instruction, the new state being that of the whole meaning of the decoded instruction, with one Snapshot of it;
or it halts or faults with the Register File and memory as they were. -/
def Obligations.StepIsAllOrNothing : Prop :=
  ∀ (tbl : OpTable) (s t : State), Executes s → stepWith tbl s = .next t →
    (t.engine = .running ∧ t.term = s.term ∧ t.events = s.events ++ [.snapshot t.snapshot] ∧
      ∃ i, fetchDecode tbl s = .ok i ∧ exec i { s with engine := .running } = .next t) ∨
    (∃ sig, t.term = some sig ∧ t.events = s.events ++ [sig.event] ∧
      ((t.engine = .halted ∧ sig = .halt ⟨.BRK, s.pc⟩) ∨
        (t.engine = .faulted ∧ ∃ k, sig = .fault ⟨k, s.peek s.pc, s.pc⟩)) ∧
      SameRegisterFile s t ∧ t.mem = s.mem ∧ t.resetDone = s.resetDone)

/-- Only BRK and an unknown opcode end a run (60_exceptions.md R243, R245, R266): under `T151` the step of an executing
engine halts exactly on a `0x00` byte, faults exactly on an unknown byte, and otherwise leaves the engine `Running`. -/
def Obligations.OnlyBrkAndUnknownBytesEndARun : Prop :=
  ∀ s t : State, Executes s → step s = .next t →
    (t.engine = .halted ↔ s.peek s.pc = 0x00) ∧
    (t.engine = .faulted ↔ (s.peek s.pc).toNat ∈ unknownBytes) ∧
    (t.engine = .running ↔ s.peek s.pc ≠ 0x00 ∧ (s.peek s.pc).toNat ∉ unknownBytes)

/-- The invariant `Inv` (canonical memory; engine, signal and stream agree) is kept by every step, with any table. -/
def Obligations.StepKeepsInv : Prop :=
  (∀ s t : State, Inv s → step s = .next t → Inv t) ∧
  ∀ (tbl : OpTable) (s t : State), Inv s → stepWith tbl s = .next t → Inv t

/-- `Inv` holds at reset. -/
def Obligations.InvHoldsAtReset : Prop := Inv State.reset

/-- Every host call keeps `Inv` in every state that has it, and a machine constructed with a canonical memory has it. So
whatever the host calls, in whatever order, `Inv` holds, and an engine that has stopped says why (60_exceptions.md R240, R259,
R261; 70_reset_and_hazards.md R285). -/
def Obligations.InvHoldsInEveryReachableState : Prop :=
  (∀ (tbl : OpTable) (c : HostCall) (s : State), Inv s → Inv (hostCall tbl c s)) ∧
  (∀ memInit : Memory, memInit.wf → Inv (State.constructed memInit)) ∧
  ∀ (tbl : OpTable) (memInit : Memory) (s : State), memInit.wf → Reachable tbl memInit s →
    Inv s ∧ (s.engine = .halted → ∃ pc, s.term = some (.halt ⟨.BRK, pc⟩)) ∧
      (s.engine = .faulted → ∃ f, s.term = some (.fault f))

/-- 60_exceptions.md R258: an executing step emits exactly one record, the one it returns; a step in a terminal state,
`reset()`, `loadProgram` and `debugSetPC` emit nothing; the stream only grows. -/
def Obligations.StreamGrowsByWhatAStepReturns : Prop :=
  ∀ (tbl : OpTable) (s : State), EngineCoherent s →
    (Executes s → ∃ t e, stepCall tbl s = .next (t, e) ∧ t.events = s.events ++ [e]) ∧
    (s.terminal = true → ∀ t, stepWith tbl s = .next t → t.events = s.events) ∧
    (∀ c : HostCall, c ≠ .step → (∀ n, c ≠ .execute n) → (hostCall tbl c s).events = s.events) ∧
    ∀ n, s.events <+: (hostCall tbl (.execute n) s).events

/-- What a run leaves on the stream (60_exceptions.md R258, R261): Snapshots, one for each instruction that retired, and
after them the signal, once, if the engine has stopped. -/
def Obligations.ARunEmitsSnapshotsThenItsSignal : Prop :=
  ∀ (n : Nat) (s t : State), Executes s → s.term = none → Host.Core.run core n s = .next t →
    ∃ snaps : List Snapshot,
      t.events = s.events ++ snaps.map .snapshot ++ (t.term.map Signal.event).toList ∧
      (t.term = none → snaps.length = n) ∧
      (t.term ≠ none → snaps.length < n)

/-- `execute(maxSteps)` is a driver over repeated `step()` calls (60_exceptions.md R255): the machine it leaves is that
of `maxSteps` steps (a step in a terminal state changing nothing), and the count in its report is the number of
Snapshots and HaltSignals emitted during the call. -/
def Obligations.ExecuteIsRepeatedStep : Prop :=
  ∀ (n : Nat) (s : State), ¬(s.engine = .reset ∧ s.resetDone = false) →
    ∃ (t : State) (es : List Event), Host.Core.run core n s = .next t ∧ t.events = s.events ++ es ∧ es.length ≤ n ∧
      execute T151 n s =
        .next (t, ⟨t.engine, retiredIn es, t.snapshot, if t.engine = .halted ∨ t.engine = .faulted then t.term else none⟩)

/-- An `execute()` that its ceiling stopped is continued by the next one (60_exceptions.md R255): the machine is that of one
call with the sum of the ceilings, and the counts add up. -/
def Obligations.ExecuteContinues : Prop :=
  ∀ (tbl : OpTable) (m n : Nat) (s t u : State) (r r' : TerminationReport),
    execute tbl m s = .next (t, r) → execute tbl n t = .next (u, r') →
    execute tbl (m + n) s = .next (u, { r' with instructionCount := r.instructionCount + r'.instructionCount })

/-! ### Reset, loading, debugging -/

/-- 70_reset_and_hazards.md R280: `reset()`, in every engine state; the Register File's own `reset` is the same with another
vector address and leaves the engine alone. -/
def Obligations.ResetSetsTheRegisterFile : Prop :=
  ∀ s : State, ∃ t, t = engineReset s ∧
    t.pc.toNat = (s.peek 0xFFFC).toNat + 256 * (s.peek 0xFFFD).toNat ∧
    t.sp = 0xFF ∧ t.a = 0x00 ∧ t.x = 0x00 ∧ t.y = 0x00 ∧
    t.p = ⟨false, false, false, false, false, false, false⟩ ∧
    t.engine = .reset ∧ t.resetDone = true ∧ t.term = none ∧ t.mem = s.mem ∧ t.events = s.events ∧
    ∀ vector : Addr, ∃ u, u = registerFileReset vector s ∧
      u.pc.toNat = (s.peek vector).toNat + 256 * (s.peek (vector + 1)).toNat ∧
      u = { t with pc := u.pc, engine := s.engine, resetDone := s.resetDone, term := s.term }

/-- 70_reset_and_hazards.md R281: `reset()` is idempotent, and what it leaves outside memory and stream depends on the two
vector bytes alone. -/
def Obligations.ResetDependsOnTheVectorAlone : Prop :=
  (∀ s : State, engineReset (engineReset s) = engineReset s) ∧
  ∀ s s' : State, s.peek 0xFFFC = s'.peek 0xFFFC → s.peek 0xFFFD = s'.peek 0xFFFD →
    engineReset s' = { engineReset s with mem := s'.mem, events := s'.events }

/-- The first `reset()` of a constructed machine (70_reset_and_hazards.md R280, R285), for every initial memory; and the
model's `State.reset` is that machine with nothing listed, whose `pc` is 0 by the model's choice of what an unlisted
byte reads as (log 1). A launch (R286, R287) is that reset after two loads: whatever memory held, it leaves `pc` at the entry
address, the registers as `reset()` sets them, the vector loaded and, where it does not reach the vector, the program; with
wrapping allowed it never fails. The canonical launch followed by `execute()` halts after two instructions with `A = 01`,
under every admissible table (R287). -/
def Obligations.FirstResetOfAConstructedMachine : Prop :=
  (∀ memInit : Memory, engineReset (State.constructed memInit) =
    { State.reset with pc := memInit.readWord 0xFFFC, mem := memInit }) ∧
  engineReset (State.constructed []) = State.reset ∧
  (∀ (wrap : Bool) (program : List Nat) (entry : Addr) (s : State), Launched wrap program entry s →
    s = { State.reset with pc := entry, mem := s.mem } ∧ s.mem.wf ∧
    s.peek 0xFFFC = loByte entry ∧ s.peek 0xFFFD = hiByte entry ∧
    (entry.toNat + program.length ≤ 0xFFFC → ∀ (i : Nat) (h : i < program.length),
      (s.peek (BitVec.ofNat 16 (entry.toNat + i))).toNat = program[i] % 256)) ∧
  (∀ (memInit : Memory) (program : List Nat) (entry : Addr), ∃ s, launch true program entry memInit = .next s) ∧
  ∀ (tbl : OpTable) (s : State) (fuel : Nat), tbl.admissible = true → CanonicalLaunch s → 2 ≤ fuel →
    ∃ t, executeUnbounded tbl fuel s =
        some (.next (t, ⟨.halted, 2, t.snapshot, some (.halt ⟨.BRK, 0x0803⟩)⟩)) ∧
      t.pc = 0x0803 ∧ t.sp = 0xFF ∧ t.a = 0x01 ∧ t.x = 0x00 ∧ t.y = 0x00 ∧ t.p = Flags.clear ∧ t.mem = s.mem

/-- 20_memory.md R54: `loadBlock` fails, with nothing written, exactly when wrapping is disallowed and the block ends past
the top; else each byte, masked, is at its wrapped address unless a later one fell on it, and every other address reads as
before. -/
def Obligations.LoadBlockCopiesTheBytes : Prop :=
  ∀ (m : Memory) (wrap : Bool) (bytes : List Nat) (start : Addr), m.wf →
    (m.loadBlock wrap bytes start = none ↔ wrap = false ∧ start.toNat + bytes.length > 65536) ∧
    ∀ m', m.loadBlock wrap bytes start = some m' →
      (∀ (i : Nat) (h : i < bytes.length),
        (∀ j, i < j → j < bytes.length → (start.toNat + j) % 65536 ≠ (start.toNat + i) % 65536) →
        (m'.readByte (start.toNat + i)).toNat = bytes[i] % 256) ∧
      ∀ k, (∀ j, j < bytes.length → (start.toNat + j) % 65536 ≠ k % 65536) → m'.readByte k = m.readByte k

/-- 70_reset_and_hazards.md R284: `loadProgram` is `loadBlock` on the Memory Bank and nothing more; it can fail only with
`OutOfBoundsLoad`, when wrapping is disallowed and the block ends past the top, and then changes nothing; it is allowed in
every engine state. -/
def Obligations.LoadProgramWritesMemoryAlone : Prop :=
  ∀ (tbl : OpTable) (wrap : Bool) (bytes : List Nat) (start : Addr) (s : State),
    (s.mem.loadBlock wrap bytes start = none ↔ wrap = false ∧ 65536 < start.toNat + bytes.length) ∧
    (∀ m, s.mem.loadBlock wrap bytes start = some m →
      loadProgram wrap bytes start s = .next { s with mem := m } ∧
      hostCall tbl (.loadProgram wrap bytes start) s = { s with mem := m }) ∧
    (s.mem.loadBlock wrap bytes start = none →
      loadProgram wrap bytes start s = .fault .outOfBoundsLoad ∧
      hostCall tbl (.loadProgram wrap bytes start) s = s)

/-- 60_exceptions.md R257: `debugSetPC` writes the masked address to `pc` and nothing else. -/
def Obligations.DebugSetPcWritesPcAlone : Prop :=
  ∀ (address : Nat) (s : State), (debugSetPC address s).pc.toNat = address % 65536 ∧
    debugSetPC address s = { s with pc := (debugSetPC address s).pc }

/-! ### Memory, flags, operands -/

/-- 20_memory.md R51 to R53: addresses wrap, stored values are masked, a write changes exactly one byte, and `readWord`
is little-endian with the wrap law at `0xFFFF`. -/
def Obligations.MemoryReadsWhatWasWritten : Prop :=
  ∀ m : Memory, m.wf →
    (∀ k, m.readByte k = m.readByte (k % 65536)) ∧
    (∀ k v j, ((m.writeByte k v).readByte j).toNat =
      if j % 65536 = k % 65536 then v % 256 else (m.readByte j).toNat) ∧
    (∀ k, (m.readWord k).toNat = (m.readByte k).toNat + 256 * (m.readByte (k + 1)).toNat) ∧
    (m.readWord 0xFFFF).toNat = (m.readByte 0xFFFF).toNat + 256 * (m.readByte 0x0000).toNat

/-- Canonical memories that read alike are equal data, and every write keeps the form: the list is a faithful picture of
the 65536 bytes of 20_memory.md R50. -/
def Obligations.CanonicalMemoryIsItsBytes : Prop :=
  (∀ (m : Memory) (k v : Nat), m.wf → (m.writeByte k v).wf) ∧
  ∀ m m' : Memory, m.wf → m'.wf → (∀ k, k < 65536 → m.readByte k = m'.readByte k) → m = m'

/-- 40_flags_addressing_step.md R110 to R112: the three flag functions, on numbers. -/
def Obligations.FlagFunctionsAreAsStated : Prop :=
  (∀ (p : Flags) (r : Byte), p.zn r = { p with z := isZero r, n := isNeg r }) ∧
  (∀ (a b : Byte) (cin : Bool),
    ((carryFromAddition a b cin).1.toNat = (a.toNat + b.toNat + cin.toNat) % 256) ∧
    ((carryFromAddition a b cin).2 = decide (255 < a.toNat + b.toNat + cin.toNat)) ∧
    overflowFromAddition a b (carryFromAddition a b cin).1 = overflows (signed a + signed b + cin.toNat)) ∧
  ∀ a b r : Byte, overflowFromAddition a b r = (decide (isNeg a = isNeg b) && decide (isNeg r ≠ isNeg a))

/-- 10_state.md R28: the packed flag byte. -/
def Obligations.PackedFlagsRoundTrip : Prop :=
  (∀ p : Flags, p.pack.toNat = byteOfFlags p) ∧
  (∀ b : Byte, Flags.unpack b = flagsOfByte b) ∧
  (∀ p : Flags, Flags.unpack p.pack = p) ∧
  ∀ b : Byte, (Flags.unpack b).pack = b ||| 0x20

/-- Effective addresses, the targets of JMP, JSR and taken branches among them, and the modes only some mnemonics have
(40_flags_addressing_step.md R119 to R127, R129); the length, operand bytes and assembled operand of each of the thirteen
modes (30_encoding.md R83). -/
def Obligations.EffectiveAddressesAreAsStated : Prop :=
  (∀ (s : State) (b1 : Byte) (a : Addr),
    (ea (.zp b1) s).toNat = b1.toNat ∧
    (ea (.zpx b1) s).toNat = (b1.toNat + s.x.toNat) % 256 ∧
    (ea (.zpy b1) s).toNat = (b1.toNat + s.y.toNat) % 256 ∧
    (ea (.abs a) s).toNat = a.toNat ∧
    (ea (.abx a) s).toNat = (a.toNat + s.x.toNat) % 65536 ∧
    (ea (.aby a) s).toNat = (a.toNat + s.y.toNat) % 65536 ∧
    (ea (.ind a) s).toNat = (s.mem.readByte a.toNat).toNat + 256 * (s.mem.readByte (a.toNat + 1)).toNat ∧
    (ea (.izx b1) s).toNat = (s.mem.readByte ((b1.toNat + s.x.toNat) % 256)).toNat
      + 256 * (s.mem.readByte ((b1.toNat + s.x.toNat) % 256 + 1)).toNat ∧
    (ea (.izy b1) s).toNat = ((s.mem.readByte b1.toNat).toNat + 256 * (s.mem.readByte (b1.toNat + 1)).toNat
      + s.y.toNat) % 65536 ∧
    ((ea (.rel b1) s).toNat : Int) = ((s.pc.toNat : Int) + 2 + signed b1) % 65536) ∧
  (∀ (s : State) (a : Addr),
    (∃ t, exec (.jmpAbs a) s = .next t ∧ t.pc = ea (.abs a) s) ∧
    (∃ t, exec (.jmpInd a) s = .next t ∧ t.pc = ea (.ind a) s) ∧
    ∃ t, exec (.jsr a) s = .next t ∧ t.pc = ea (.abs a) s) ∧
  (∀ (s : State) (b1 op : Byte) (i : Instr) (cond : Flags → Bool), (op, i, cond) ∈ branchForms b1 →
    ∃ t, exec i s = .next t ∧ t.pc = if cond s.p then ea (.rel b1) s else s.pc + 2) ∧
  (∀ (mn : Mnemonic) (m : Mode) (b1 b2 : Byte) (i : Instr), instrOf mn m b1 b2 = some i →
    i.mode = m ∧ i.length = m.len ∧
      i.operand = if m.len = 1 then .none else if m.len = 2 then .one b1 else .two (join b2 b1)) ∧
  (∀ (s : State) (v : Byte), (Source.imm v).val s = v ∧ Place.acc.val s = s.a ∧ Place.acc.put v s = { s with a := v }) ∧
  (∀ m ∈ [Mode.imp, .acc], m.len = 1) ∧
  (∀ m ∈ [Mode.imm, .zp, .zpx, .zpy, .izx, .izy, .rel], m.len = 2) ∧
  (∀ m ∈ [Mode.abs, .abx, .aby, .ind], m.len = 3) ∧
  ∀ mn : Mnemonic, (.zpy ∈ mn.modes ↔ mn ∈ [Mnemonic.LDX, .STX]) ∧ (.ind ∈ mn.modes ↔ mn = .JMP) ∧
    (.rel ∈ mn.modes ↔ mn ∈ [Mnemonic.BCC, .BCS, .BEQ, .BNE, .BMI, .BPL, .BVC, .BVS])

/-! ### Instructions: loads, stores, transfers -/

/-- 41_load_store_transfer.md R151 to R153. -/
def Obligations.LoadsWriteTheRegisterAndZN : Prop :=
  ∀ (s : State) (b1 b2 op : Byte) (i : Instr) (r : Reg) (o : Source) (len : Nat),
    (op, i, r, o, len) ∈ loadForms b1 b2 →
    decode3 T151 op b1 b2 = .ok i ∧
    ∃ t, exec i s = .next t ∧ t.reg r = o.val s ∧
      t.p = { s.p with z := isZero (o.val s), n := isNeg (o.val s) } ∧
      SameRegsBut [r] s t ∧ SameMemory s t ∧ RetiredPast s t len

/-- 41_load_store_transfer.md R154 to R156. -/
def Obligations.StoresWriteTheByteAtEa : Prop :=
  ∀ (s : State) (b1 b2 op : Byte) (i : Instr) (r : Reg) (f : AddrForm) (len : Nat),
    (op, i, r, f, len) ∈ storeForms b1 b2 → s.mem.wf →
    decode3 T151 op b1 b2 = .ok i ∧
    ∃ t, exec i s = .next t ∧ StoresByte s t (ea f s) (s.reg r) ∧
      SameRegsBut [] s t ∧ t.p = s.p ∧ RetiredPast s t len

/-- 41_load_store_transfer.md R157 to R161. -/
def Obligations.TransfersCopyTheRegisterAndSetZN : Prop :=
  ∀ (s : State) (b1 b2 op : Byte) (i : Instr) (src dst : Reg) (len : Nat),
    (op, i, src, dst, len) ∈ transferForms →
    decode3 T151 op b1 b2 = .ok i ∧
    ∃ t, exec i s = .next t ∧ t.reg dst = s.reg src ∧
      t.p = { s.p with z := isZero (s.reg src), n := isNeg (s.reg src) } ∧
      SameRegsBut [dst] s t ∧ SameMemory s t ∧ RetiredPast s t len

/-- 41_load_store_transfer.md R162: TXS writes no flag. -/
def Obligations.TxsWritesSpAndNoFlag : Prop :=
  ∀ (s : State) (b1 b2 : Byte), decode3 T151 0x9A b1 b2 = .ok .txs ∧
    ∃ t, exec .txs s = .next t ∧ t.sp = s.x ∧ t.p = s.p ∧
      SameRegsBut [.SP] s t ∧ SameMemory s t ∧ RetiredPast s t 1

/-! ### Instructions: arithmetic and logic -/

/-- 42_arithmetic_logic.md R171: binary addition whatever P.D is. -/
def Obligations.AdcAddsWithCarry : Prop :=
  ∀ (s : State) (b1 b2 op : Byte) (i : Instr) (o : Source) (len : Nat), (op, i, o, len) ∈ adcForms b1 b2 →
    decode3 T151 op b1 b2 = .ok i ∧
    ∃ t, exec i s = .next t ∧
      t.a.toNat = (s.a.toNat + (o.val s).toNat + s.p.c.toNat) % 256 ∧
      t.p = { s.p with
        c := decide (255 < s.a.toNat + (o.val s).toNat + s.p.c.toNat)
        v := overflows (signed s.a + signed (o.val s) + s.p.c.toNat)
        z := isZero t.a
        n := isNeg t.a } ∧
      SameRegsBut [.A] s t ∧ SameMemory s t ∧ RetiredPast s t len

/-- 42_arithmetic_logic.md R172: the difference, less one more without carry; C is "no borrow". -/
def Obligations.SbcSubtractsWithBorrow : Prop :=
  ∀ (s : State) (b1 b2 op : Byte) (i : Instr) (o : Source) (len : Nat), (op, i, o, len) ∈ sbcForms b1 b2 →
    decode3 T151 op b1 b2 = .ok i ∧
    ∃ t, exec i s = .next t ∧
      (t.a.toNat : Int) = ((s.a.toNat : Int) - (o.val s).toNat - (1 - (s.p.c.toNat : Int))) % 256 ∧
      t.p = { s.p with
        c := decide (0 ≤ (s.a.toNat : Int) - (o.val s).toNat - (1 - (s.p.c.toNat : Int)))
        v := overflows (signed s.a - signed (o.val s) - (1 - (s.p.c.toNat : Int)))
        z := isZero t.a
        n := isNeg t.a } ∧
      SameRegsBut [.A] s t ∧ SameMemory s t ∧ RetiredPast s t len

/-- 42_arithmetic_logic.md R173 to R175, bit by bit. -/
def Obligations.LogicActsOnEachBit : Prop :=
  ∀ (s : State) (b1 b2 op : Byte) (i : Instr) (f : Bool → Bool → Bool) (o : Source) (len : Nat),
    (op, i, f, o, len) ∈ logicForms b1 b2 →
    decode3 T151 op b1 b2 = .ok i ∧
    ∃ t, exec i s = .next t ∧
      (∀ k, k < 8 → t.a.toNat.testBit k = f (s.a.toNat.testBit k) ((o.val s).toNat.testBit k)) ∧
      t.p = { s.p with z := isZero t.a, n := isNeg t.a } ∧
      SameRegsBut [.A] s t ∧ SameMemory s t ∧ RetiredPast s t len

/-- 42_arithmetic_logic.md R176 to R178: flags alone. -/
def Obligations.ComparesSetFlagsAlone : Prop :=
  ∀ (s : State) (b1 b2 op : Byte) (i : Instr) (r : Reg) (o : Source) (len : Nat),
    (op, i, r, o, len) ∈ compareForms b1 b2 →
    decode3 T151 op b1 b2 = .ok i ∧
    ∃ t, exec i s = .next t ∧
      t.p = { s.p with
        c := decide ((o.val s).toNat ≤ (s.reg r).toNat)
        z := decide ((s.reg r).toNat = (o.val s).toNat)
        n := decide (128 ≤ ((s.reg r).toNat + 256 - (o.val s).toNat) % 256) } ∧
      SameRegsBut [] s t ∧ SameMemory s t ∧ RetiredPast s t len

/-- 42_arithmetic_logic.md R179: Z from `A & m`; N and V are bits 7 and 6 of `m`. -/
def Obligations.BitTestsTheOperand : Prop :=
  ∀ (s : State) (b1 b2 op : Byte) (i : Instr) (f : AddrForm) (len : Nat), (op, i, f, len) ∈ bitForms b1 b2 →
    decode3 T151 op b1 b2 = .ok i ∧
    ∃ t, exec i s = .next t ∧
      t.p = { s.p with
        z := decide (s.a.toNat &&& (s.peek (ea f s)).toNat = 0)
        n := (s.peek (ea f s)).toNat.testBit 7
        v := (s.peek (ea f s)).toNat.testBit 6 } ∧
      SameRegsBut [] s t ∧ SameMemory s t ∧ RetiredPast s t len

/-- 42_arithmetic_logic.md R180, R181. -/
def Obligations.IncDecRewriteTheByteAtEa : Prop :=
  ∀ (s : State) (b1 b2 op : Byte) (i : Instr) (d : Nat) (f : AddrForm) (len : Nat),
    (op, i, d, f, len) ∈ stepMemForms b1 b2 → s.mem.wf →
    decode3 T151 op b1 b2 = .ok i ∧
    ∃ (t : State) (r : Byte), exec i s = .next t ∧ r.toNat = ((s.peek (ea f s)).toNat + d) % 256 ∧
      StoresByte s t (ea f s) r ∧ t.p = { s.p with z := isZero r, n := isNeg r } ∧
      SameRegsBut [] s t ∧ RetiredPast s t len

/-- 42_arithmetic_logic.md R182 to R185. -/
def Obligations.RegisterIncDecWrapAndSetZN : Prop :=
  ∀ (s : State) (b1 b2 op : Byte) (i : Instr) (d : Nat) (r : Reg) (len : Nat),
    (op, i, d, r, len) ∈ stepRegForms →
    decode3 T151 op b1 b2 = .ok i ∧
    ∃ t, exec i s = .next t ∧ (t.reg r).toNat = ((s.reg r).toNat + d) % 256 ∧
      t.p = { s.p with z := isZero (t.reg r), n := isNeg (t.reg r) } ∧
      SameRegsBut [r] s t ∧ SameMemory s t ∧ RetiredPast s t len

/-! ### Instructions: shifts -/

/-- 43_shift_rotate.md R191 to R194, on A and on the byte at `ea`. -/
def Obligations.ShiftsMoveOneBitThroughCarry : Prop :=
  (∀ (s : State) (b1 b2 op : Byte) (i : Instr) (f : Nat → Nat → Nat × Nat) (len : Nat),
    (op, i, f, len) ∈ shiftAccForms →
    decode3 T151 op b1 b2 = .ok i ∧
    ∃ t, exec i s = .next t ∧ t.a.toNat = (f s.p.c.toNat s.a.toNat).1 ∧
      t.p = { s.p with c := decide ((f s.p.c.toNat s.a.toNat).2 = 1), z := isZero t.a, n := isNeg t.a } ∧
      SameRegsBut [.A] s t ∧ SameMemory s t ∧ RetiredPast s t len) ∧
  ∀ (s : State) (b1 b2 op : Byte) (i : Instr) (f : Nat → Nat → Nat × Nat) (g : AddrForm) (len : Nat),
    (op, i, f, g, len) ∈ shiftMemForms b1 b2 → s.mem.wf →
    decode3 T151 op b1 b2 = .ok i ∧
    ∃ (t : State) (r : Byte), exec i s = .next t ∧
      r.toNat = (f s.p.c.toNat (s.peek (ea g s)).toNat).1 ∧ StoresByte s t (ea g s) r ∧
      t.p = { s.p with
        c := decide ((f s.p.c.toNat (s.peek (ea g s)).toNat).2 = 1)
        z := isZero r
        n := isNeg r } ∧
      SameRegsBut [] s t ∧ RetiredPast s t len

/-! ### Instructions: control transfer -/

/-- 44_control_flow.md R201. -/
def Obligations.JmpGoesToEa : Prop :=
  ∀ (s : State) (b1 b2 op : Byte) (i : Instr) (f : AddrForm), (op, i, f) ∈ jmpForms b1 b2 →
    decode3 T151 op b1 b2 = .ok i ∧
    ∃ t, exec i s = .next t ∧ Retired s t (ea f s) ∧ SameRegsBut [] s t ∧ t.p = s.p ∧ SameMemory s t

/-- 44_control_flow.md R202: the address of JSR's last byte is pushed, high byte first. -/
def Obligations.JsrPushesAndJumps : Prop :=
  ∀ (s : State) (b1 b2 : Byte), s.mem.wf →
    decode3 T151 0x20 b1 b2 = .ok (.jsr (join b2 b1)) ∧
    ∃ t, exec (.jsr (join b2 b1)) s = .next t ∧
      Retired s t (BitVec.ofNat 16 (b1.toNat + 256 * b2.toNat)) ∧
      t.sp.toNat = (s.sp.toNat + 254) % 256 ∧ SameRegsBut [.SP] s t ∧ t.p = s.p ∧
      (t.peek (stackByte s.sp.toNat)).toNat = (s.pc.toNat + 2) % 65536 / 256 ∧
      (t.peek (stackByte (s.sp.toNat + 255))).toNat = (s.pc.toNat + 2) % 256 ∧
      ∀ k, k ≠ stackByte s.sp.toNat → k ≠ stackByte (s.sp.toNat + 255) → t.peek k = s.peek k

/-- 44_control_flow.md R203. -/
def Obligations.RtsPullsAndAddsOne : Prop :=
  ∀ (s : State) (b1 b2 : Byte), decode3 T151 0x60 b1 b2 = .ok .rts ∧
    ∃ t, exec .rts s = .next t ∧
      Retired s t (BitVec.ofNat 16 ((s.peek (stackByte (s.sp.toNat + 1))).toNat
        + 256 * (s.peek (stackByte (s.sp.toNat + 2))).toNat + 1)) ∧
      t.sp.toNat = (s.sp.toNat + 2) % 256 ∧ SameRegsBut [.SP] s t ∧ t.p = s.p ∧ SameMemory s t

/-- 44_control_flow.md R204: all seven flags, then the address, with nothing added. -/
def Obligations.RtiPullsFlagsAndAddress : Prop :=
  ∀ (s : State) (b1 b2 : Byte), decode3 T151 0x40 b1 b2 = .ok .rti ∧
    ∃ t, exec .rti s = .next t ∧
      t.p = flagsOfByte (s.peek (stackByte (s.sp.toNat + 1))) ∧
      Retired s t (BitVec.ofNat 16 ((s.peek (stackByte (s.sp.toNat + 2))).toNat
        + 256 * (s.peek (stackByte (s.sp.toNat + 3))).toNat)) ∧
      t.sp.toNat = (s.sp.toNat + 3) % 256 ∧ SameRegsBut [.SP] s t ∧ SameMemory s t

/-- 44_control_flow.md R205 to R213: taken or not, a branch writes `pc` alone. -/
def Obligations.BranchesGoWhereTheFlagSays : Prop :=
  ∀ (s : State) (b1 b2 op : Byte) (i : Instr) (cond : Flags → Bool), (op, i, cond) ∈ branchForms b1 →
    decode3 T151 op b1 b2 = .ok i ∧
    ∃ t, exec i s = .next t ∧
      Retired s t (if cond s.p then BitVec.ofInt 16 ((s.pc.toNat : Int) + 2 + signed b1)
        else BitVec.ofNat 16 (s.pc.toNat + 2)) ∧
      SameRegsBut [] s t ∧ t.p = s.p ∧ SameMemory s t

/-- A subroutine that gives back the stack pointer and the two return bytes as JSR left them returns behind the call: with
any other registers, flags, `pc` and memory, RTS goes to the instruction after the JSR and restores `SP` (44_control_flow.md
R202, R203). -/
def Obligations.RtsAfterJsrReturnsBehindTheCall : Prop :=
  ∀ (s t u : State) (target : Addr), s.mem.wf → exec (.jsr target) s = .next t → u.sp = t.sp →
    u.peek (stackByte (u.sp.toNat + 1)) = t.peek (stackByte (u.sp.toNat + 1)) →
    u.peek (stackByte (u.sp.toNat + 2)) = t.peek (stackByte (u.sp.toNat + 2)) →
    ∃ v, exec .rts u = .next v ∧ v.pc.toNat = (s.pc.toNat + 3) % 65536 ∧ v.sp = s.sp

/-! ### Instructions: stack, flags, NOP -/

/-- 45_stack_flags_system.md R221, R222: A, or the packed flags, at the byte `SP` designates. -/
def Obligations.PushesStoreAndDecrement : Prop :=
  ∀ (s : State) (b1 b2 : Byte), s.mem.wf →
    (decode3 T151 0x48 b1 b2 = .ok .pha ∧
      ∃ t, exec .pha s = .next t ∧ StoresByte s t (stackByte s.sp.toNat) s.a ∧
        t.sp.toNat = (s.sp.toNat + 255) % 256 ∧ SameRegsBut [.SP] s t ∧ t.p = s.p ∧ RetiredPast s t 1) ∧
    (decode3 T151 0x08 b1 b2 = .ok .php ∧
      ∃ t, exec .php s = .next t ∧ StoresByte s t (stackByte s.sp.toNat) (BitVec.ofNat 8 (byteOfFlags s.p)) ∧
        t.sp.toNat = (s.sp.toNat + 255) % 256 ∧ SameRegsBut [.SP] s t ∧ t.p = s.p ∧ RetiredPast s t 1)

/-- 45_stack_flags_system.md R223. -/
def Obligations.PlaPullsAAndSetsZN : Prop :=
  ∀ (s : State) (b1 b2 : Byte), decode3 T151 0x68 b1 b2 = .ok .pla ∧
    ∃ t, exec .pla s = .next t ∧ t.a = s.peek (stackByte (s.sp.toNat + 1)) ∧
      t.p = { s.p with z := isZero t.a, n := isNeg t.a } ∧
      t.sp.toNat = (s.sp.toNat + 1) % 256 ∧ SameRegsBut [.A, .SP] s t ∧ SameMemory s t ∧ RetiredPast s t 1

/-- 45_stack_flags_system.md R224: all seven flags from the pulled byte; PHP then PLP leaves every flag, and `SP`, as
it was. -/
def Obligations.PlpPullsAllSevenFlags : Prop :=
  ∀ (s : State) (b1 b2 : Byte),
    (decode3 T151 0x28 b1 b2 = .ok .plp ∧
      ∃ t, exec .plp s = .next t ∧ t.p = flagsOfByte (s.peek (stackByte (s.sp.toNat + 1))) ∧
        t.sp.toNat = (s.sp.toNat + 1) % 256 ∧ SameRegsBut [.SP] s t ∧ SameMemory s t ∧ RetiredPast s t 1) ∧
    (s.mem.wf → ∀ t u, exec .php s = .next t → exec .plp t = .next u → u.p = s.p ∧ u.sp = s.sp)

/-- 45_stack_flags_system.md R220: what push and pull do; they are inverses, and always stay in page 1. -/
def Obligations.PullAfterPushReturnsTheByte : Prop :=
  ∀ (s : State) (v : Byte), s.mem.wf →
    (s.push v).pulled = v ∧ (s.push v).pull.sp = s.sp ∧
    StoresByte s (s.push v) (stackByte s.sp.toNat) v ∧ SameRegsBut [.SP] s (s.push v) ∧
    (s.push v).sp.toNat = (s.sp.toNat + 255) % 256 ∧
    s.pulled = s.peek (stackByte (s.sp.toNat + 1)) ∧ s.pull.sp.toNat = (s.sp.toNat + 1) % 256 ∧
    SameMemory s s.pull ∧ SameRegsBut [.SP] s s.pull ∧
    SameMemory (s.pull.push s.pulled) s ∧ (s.pull.push s.pulled).sp = s.sp ∧
    ∀ sp : Byte, 0x0100 ≤ (stackAddr sp).toNat ∧ (stackAddr sp).toNat ≤ 0x01FF

/-- 45_stack_flags_system.md R225 to R231: one flag with a constant, nothing else. -/
def Obligations.FlagInstructionsWriteOneFlag : Prop :=
  ∀ (s : State) (b1 b2 op : Byte) (i : Instr) (f : Flags → Flags), (op, i, f) ∈ flagForms →
    decode3 T151 op b1 b2 = .ok i ∧
    ∃ t, exec i s = .next t ∧ t.p = f s.p ∧ SameRegsBut [] s t ∧ SameMemory s t ∧ RetiredPast s t 1

/-- 45_stack_flags_system.md R232: NOP advances `pc` and emits a Snapshot. -/
def Obligations.NopOnlyAdvances : Prop :=
  ∀ (s : State) (b1 b2 : Byte), decode3 T151 0xEA b1 b2 = .ok .nop ∧
    ∃ t, exec .nop s = .next t ∧ t.p = s.p ∧ SameRegsBut [] s t ∧ SameMemory s t ∧ RetiredPast s t 1

/-! ### The whole machine -/

/-- 10_state.md R24: every instruction but the control transfers and BRK advances `pc` by its length, wrapping. -/
def Obligations.PcAdvancesByTheLength : Prop :=
  ∀ (i : Instr) (s t : State), exec i s = .next t →
    (i.mnemonic ∉ [Mnemonic.JMP, .JSR, .RTS, .RTI, .BCC, .BCS, .BEQ, .BNE, .BMI, .BPL, .BVC, .BVS, .BRK] →
      t.pc.toNat = (s.pc.toNat + i.length) % 65536) ∧
    (i = .brk → t.pc = s.pc)

/-- 10_state.md R27: each flag is written only by the instructions its row lists. -/
def Obligations.EachFlagHasItsWriters : Prop :=
  ∀ (i : Instr) (s t : State), exec i s = .next t →
    (t.p.c ≠ s.p.c → i.mnemonic ∈ [Mnemonic.ADC, .SBC, .CMP, .CPX, .CPY, .ASL, .ROL, .LSR, .ROR, .CLC, .SEC, .PLP, .RTI]) ∧
    (t.p.z ≠ s.p.z → i.mnemonic ∈ [Mnemonic.LDA, .LDX, .LDY, .TAX, .TAY, .TXA, .TYA, .TSX, .PLA, .ADC, .SBC, .AND, .ORA,
      .EOR, .CMP, .CPX, .CPY, .INC, .DEC, .INX, .INY, .DEX, .DEY, .ASL, .LSR, .ROL, .ROR, .BIT, .PLP, .RTI]) ∧
    (t.p.i ≠ s.p.i → i.mnemonic ∈ [Mnemonic.SEI, .CLI, .PLP, .RTI]) ∧
    (t.p.d ≠ s.p.d → i.mnemonic ∈ [Mnemonic.SED, .CLD, .PLP, .RTI]) ∧
    (t.p.b ≠ s.p.b → i.mnemonic ∈ [Mnemonic.PLP, .RTI]) ∧
    (t.p.v ≠ s.p.v → i.mnemonic ∈ [Mnemonic.ADC, .SBC, .BIT, .CLV, .PLP, .RTI]) ∧
    (t.p.n ≠ s.p.n → i.mnemonic ∈ [Mnemonic.LDA, .LDX, .LDY, .TAX, .TAY, .TXA, .TYA, .TSX, .PLA, .ADC, .SBC, .AND, .ORA,
      .EOR, .CMP, .CPX, .CPY, .INC, .DEC, .INX, .INY, .DEX, .DEY, .ASL, .LSR, .ROL, .ROR, .BIT, .PLP, .RTI])

/-- 10_state.md R30 and 20_memory.md R55: each register is written only by the instructions its row lists, and memory
only by stores, pushes and read-modify-writes. -/
def Obligations.EachRegisterHasItsWriters : Prop :=
  ∀ (i : Instr) (s t : State), exec i s = .next t →
    (t.a ≠ s.a → i.mnemonic ∈ [Mnemonic.LDA, .PLA, .TXA, .TYA, .ADC, .SBC, .AND, .ORA, .EOR] ∨
      (i.mnemonic ∈ [Mnemonic.ASL, .LSR, .ROL, .ROR] ∧ i.mode = .acc)) ∧
    (t.x ≠ s.x → i.mnemonic ∈ [Mnemonic.LDX, .TAX, .TSX, .INX, .DEX]) ∧
    (t.y ≠ s.y → i.mnemonic ∈ [Mnemonic.LDY, .TAY, .INY, .DEY]) ∧
    (t.sp ≠ s.sp → i.mnemonic ∈ [Mnemonic.TXS, .PHA, .PHP, .PLA, .PLP, .JSR, .RTS, .RTI]) ∧
    (t.mem ≠ s.mem → i.mnemonic ∈ [Mnemonic.STA, .STX, .STY, .PHA, .PHP, .JSR] ∨
      (i.mnemonic ∈ [Mnemonic.INC, .DEC, .ASL, .LSR, .ROL, .ROR] ∧ i.mode ≠ .acc))

/-- 10_state.md R29: `P.I`, `P.D` and `P.B` are inert. Two machines that differ only in them differ, after any
instruction but PHP, only in them and in what the Snapshot reports of them; after PHP, besides, in the byte pushed. -/
def Obligations.InertFlagsInfluenceNothing : Prop :=
  ∀ (i : Instr) (s t : State) (fi fd fb : Bool), exec i s = .next t →
    ∃ t', exec i (withInert s fi fd fb) = .next t' ∧
      t'.pc = t.pc ∧ t'.sp = t.sp ∧ t'.a = t.a ∧ t'.x = t.x ∧ t'.y = t.y ∧
      t'.p.c = t.p.c ∧ t'.p.z = t.p.z ∧ t'.p.v = t.p.v ∧ t'.p.n = t.p.n ∧
      t'.engine = t.engine ∧ t'.resetDone = t.resetDone ∧ t'.term = t.term ∧
      t'.events.map withoutInert = t.events.map withoutInert ∧
      (i ≠ .php → t'.mem = t.mem) ∧
      (s.mem.wf → ∀ k, k ≠ stackByte s.sp.toNat → t'.peek k = t.peek k)

end
end

