-- ==== Sys2Proof/Laws/State.lean ====
section
/-!
SUPPORT. One lemma per field per update of `State`, so that no later proof unfolds a record update.
-/

namespace Sys2Proof.Machine

variable (s : State)

/-! ### `setReg` -/

@[simp] theorem setReg_pc (r : Reg) (v : Byte) : (s.setReg r v).pc = s.pc := by cases r <;> rfl
@[simp] theorem setReg_p (r : Reg) (v : Byte) : (s.setReg r v).p = s.p := by cases r <;> rfl
@[simp] theorem setReg_mem (r : Reg) (v : Byte) : (s.setReg r v).mem = s.mem := by cases r <;> rfl
@[simp] theorem setReg_engine (r : Reg) (v : Byte) : (s.setReg r v).engine = s.engine := by cases r <;> rfl
@[simp] theorem setReg_resetDone (r : Reg) (v : Byte) : (s.setReg r v).resetDone = s.resetDone := by cases r <;> rfl
@[simp] theorem setReg_term (r : Reg) (v : Byte) : (s.setReg r v).term = s.term := by cases r <;> rfl
@[simp] theorem setReg_events (r : Reg) (v : Byte) : (s.setReg r v).events = s.events := by cases r <;> rfl

@[simp] theorem setReg_A_a (v : Byte) : (s.setReg .A v).a = v := rfl
@[simp] theorem setReg_A_x (v : Byte) : (s.setReg .A v).x = s.x := rfl
@[simp] theorem setReg_A_y (v : Byte) : (s.setReg .A v).y = s.y := rfl
@[simp] theorem setReg_A_sp (v : Byte) : (s.setReg .A v).sp = s.sp := rfl
@[simp] theorem setReg_X_a (v : Byte) : (s.setReg .X v).a = s.a := rfl
@[simp] theorem setReg_X_x (v : Byte) : (s.setReg .X v).x = v := rfl
@[simp] theorem setReg_X_y (v : Byte) : (s.setReg .X v).y = s.y := rfl
@[simp] theorem setReg_X_sp (v : Byte) : (s.setReg .X v).sp = s.sp := rfl
@[simp] theorem setReg_Y_a (v : Byte) : (s.setReg .Y v).a = s.a := rfl
@[simp] theorem setReg_Y_x (v : Byte) : (s.setReg .Y v).x = s.x := rfl
@[simp] theorem setReg_Y_y (v : Byte) : (s.setReg .Y v).y = v := rfl
@[simp] theorem setReg_Y_sp (v : Byte) : (s.setReg .Y v).sp = s.sp := rfl
@[simp] theorem setReg_SP_a (v : Byte) : (s.setReg .SP v).a = s.a := rfl
@[simp] theorem setReg_SP_x (v : Byte) : (s.setReg .SP v).x = s.x := rfl
@[simp] theorem setReg_SP_y (v : Byte) : (s.setReg .SP v).y = s.y := rfl
@[simp] theorem setReg_SP_sp (v : Byte) : (s.setReg .SP v).sp = v := rfl

@[simp] theorem reg_A : s.reg .A = s.a := rfl
@[simp] theorem reg_X : s.reg .X = s.x := rfl
@[simp] theorem reg_Y : s.reg .Y = s.y := rfl
@[simp] theorem reg_SP : s.reg .SP = s.sp := rfl

@[simp] theorem reg_setReg_same (r : Reg) (v : Byte) : (s.setReg r v).reg r = v := by cases r <;> rfl

theorem reg_setReg_other (r q : Reg) (v : Byte) (h : q ≠ r) : (s.setReg r v).reg q = s.reg q := by
  cases r <;> cases q <;> first | rfl | exact absurd rfl h

/-! ### `setFlags` -/

@[simp] theorem setFlags_pc (q : Flags) : (s.setFlags q).pc = s.pc := rfl
@[simp] theorem setFlags_sp (q : Flags) : (s.setFlags q).sp = s.sp := rfl
@[simp] theorem setFlags_a (q : Flags) : (s.setFlags q).a = s.a := rfl
@[simp] theorem setFlags_x (q : Flags) : (s.setFlags q).x = s.x := rfl
@[simp] theorem setFlags_y (q : Flags) : (s.setFlags q).y = s.y := rfl
@[simp] theorem setFlags_p (q : Flags) : (s.setFlags q).p = q := rfl
@[simp] theorem setFlags_mem (q : Flags) : (s.setFlags q).mem = s.mem := rfl
@[simp] theorem setFlags_engine (q : Flags) : (s.setFlags q).engine = s.engine := rfl
@[simp] theorem setFlags_resetDone (q : Flags) : (s.setFlags q).resetDone = s.resetDone := rfl
@[simp] theorem setFlags_term (q : Flags) : (s.setFlags q).term = s.term := rfl
@[simp] theorem setFlags_events (q : Flags) : (s.setFlags q).events = s.events := rfl

@[simp] theorem setFlags_reg (q : Flags) (r : Reg) : (s.setFlags q).reg r = s.reg r := by cases r <;> rfl

/-! ### `setPc` -/

@[simp] theorem setPc_pc (w : Addr) : (s.setPc w).pc = w := rfl
@[simp] theorem setPc_sp (w : Addr) : (s.setPc w).sp = s.sp := rfl
@[simp] theorem setPc_a (w : Addr) : (s.setPc w).a = s.a := rfl
@[simp] theorem setPc_x (w : Addr) : (s.setPc w).x = s.x := rfl
@[simp] theorem setPc_y (w : Addr) : (s.setPc w).y = s.y := rfl
@[simp] theorem setPc_p (w : Addr) : (s.setPc w).p = s.p := rfl
@[simp] theorem setPc_mem (w : Addr) : (s.setPc w).mem = s.mem := rfl
@[simp] theorem setPc_engine (w : Addr) : (s.setPc w).engine = s.engine := rfl
@[simp] theorem setPc_resetDone (w : Addr) : (s.setPc w).resetDone = s.resetDone := rfl
@[simp] theorem setPc_term (w : Addr) : (s.setPc w).term = s.term := rfl
@[simp] theorem setPc_events (w : Addr) : (s.setPc w).events = s.events := rfl

/-! ### `poke` -/

@[simp] theorem poke_pc (k : Addr) (v : Byte) : (s.poke k v).pc = s.pc := rfl
@[simp] theorem poke_sp (k : Addr) (v : Byte) : (s.poke k v).sp = s.sp := rfl
@[simp] theorem poke_a (k : Addr) (v : Byte) : (s.poke k v).a = s.a := rfl
@[simp] theorem poke_x (k : Addr) (v : Byte) : (s.poke k v).x = s.x := rfl
@[simp] theorem poke_y (k : Addr) (v : Byte) : (s.poke k v).y = s.y := rfl
@[simp] theorem poke_p (k : Addr) (v : Byte) : (s.poke k v).p = s.p := rfl
@[simp] theorem poke_mem (k : Addr) (v : Byte) : (s.poke k v).mem = s.mem.writeByte k.toNat v.toNat := rfl
@[simp] theorem poke_engine (k : Addr) (v : Byte) : (s.poke k v).engine = s.engine := rfl
@[simp] theorem poke_resetDone (k : Addr) (v : Byte) : (s.poke k v).resetDone = s.resetDone := rfl
@[simp] theorem poke_term (k : Addr) (v : Byte) : (s.poke k v).term = s.term := rfl
@[simp] theorem poke_events (k : Addr) (v : Byte) : (s.poke k v).events = s.events := rfl

@[simp] theorem poke_reg (k : Addr) (v : Byte) (r : Reg) : (s.poke k v).reg r = s.reg r := by cases r <;> rfl

/-! ### `emit` -/

@[simp] theorem emit_pc (e : Event) : (s.emit e).pc = s.pc := rfl
@[simp] theorem emit_sp (e : Event) : (s.emit e).sp = s.sp := rfl
@[simp] theorem emit_a (e : Event) : (s.emit e).a = s.a := rfl
@[simp] theorem emit_x (e : Event) : (s.emit e).x = s.x := rfl
@[simp] theorem emit_y (e : Event) : (s.emit e).y = s.y := rfl
@[simp] theorem emit_p (e : Event) : (s.emit e).p = s.p := rfl
@[simp] theorem emit_mem (e : Event) : (s.emit e).mem = s.mem := rfl
@[simp] theorem emit_engine (e : Event) : (s.emit e).engine = s.engine := rfl
@[simp] theorem emit_resetDone (e : Event) : (s.emit e).resetDone = s.resetDone := rfl
@[simp] theorem emit_term (e : Event) : (s.emit e).term = s.term := rfl
@[simp] theorem emit_events (e : Event) : (s.emit e).events = s.events ++ [e] := rfl

/-! ### `setRegZN` -/

@[simp] theorem setRegZN_pc (r : Reg) (v : Byte) : (s.setRegZN r v).pc = s.pc := by cases r <;> rfl
@[simp] theorem setRegZN_p (r : Reg) (v : Byte) : (s.setRegZN r v).p = s.p.zn v := by cases r <;> rfl
@[simp] theorem setRegZN_mem (r : Reg) (v : Byte) : (s.setRegZN r v).mem = s.mem := by cases r <;> rfl
@[simp] theorem setRegZN_engine (r : Reg) (v : Byte) : (s.setRegZN r v).engine = s.engine := by cases r <;> rfl
@[simp] theorem setRegZN_resetDone (r : Reg) (v : Byte) : (s.setRegZN r v).resetDone = s.resetDone := by cases r <;> rfl
@[simp] theorem setRegZN_term (r : Reg) (v : Byte) : (s.setRegZN r v).term = s.term := by cases r <;> rfl
@[simp] theorem setRegZN_events (r : Reg) (v : Byte) : (s.setRegZN r v).events = s.events := by cases r <;> rfl

@[simp] theorem setRegZN_reg_same (r : Reg) (v : Byte) : (s.setRegZN r v).reg r = v := by cases r <;> rfl

theorem setRegZN_reg_other (r q : Reg) (v : Byte) (h : q ≠ r) : (s.setRegZN r v).reg q = s.reg q := by
  cases r <;> cases q <;> first | rfl | exact absurd rfl h

@[simp] theorem setRegZN_A_a (v : Byte) : (s.setRegZN .A v).a = v := rfl
@[simp] theorem setRegZN_A_x (v : Byte) : (s.setRegZN .A v).x = s.x := rfl
@[simp] theorem setRegZN_A_y (v : Byte) : (s.setRegZN .A v).y = s.y := rfl
@[simp] theorem setRegZN_A_sp (v : Byte) : (s.setRegZN .A v).sp = s.sp := rfl
@[simp] theorem setRegZN_X_a (v : Byte) : (s.setRegZN .X v).a = s.a := rfl
@[simp] theorem setRegZN_X_x (v : Byte) : (s.setRegZN .X v).x = v := rfl
@[simp] theorem setRegZN_X_y (v : Byte) : (s.setRegZN .X v).y = s.y := rfl
@[simp] theorem setRegZN_X_sp (v : Byte) : (s.setRegZN .X v).sp = s.sp := rfl
@[simp] theorem setRegZN_Y_a (v : Byte) : (s.setRegZN .Y v).a = s.a := rfl
@[simp] theorem setRegZN_Y_x (v : Byte) : (s.setRegZN .Y v).x = s.x := rfl
@[simp] theorem setRegZN_Y_y (v : Byte) : (s.setRegZN .Y v).y = v := rfl
@[simp] theorem setRegZN_Y_sp (v : Byte) : (s.setRegZN .Y v).sp = s.sp := rfl
@[simp] theorem setRegZN_SP_a (v : Byte) : (s.setRegZN .SP v).a = s.a := rfl
@[simp] theorem setRegZN_SP_x (v : Byte) : (s.setRegZN .SP v).x = s.x := rfl
@[simp] theorem setRegZN_SP_y (v : Byte) : (s.setRegZN .SP v).y = s.y := rfl
@[simp] theorem setRegZN_SP_sp (v : Byte) : (s.setRegZN .SP v).sp = v := rfl

/-! ### `push` -/

@[simp] theorem push_pc (v : Byte) : (s.push v).pc = s.pc := rfl
@[simp] theorem push_sp (v : Byte) : (s.push v).sp = s.sp - 1 := rfl
@[simp] theorem push_a (v : Byte) : (s.push v).a = s.a := rfl
@[simp] theorem push_x (v : Byte) : (s.push v).x = s.x := rfl
@[simp] theorem push_y (v : Byte) : (s.push v).y = s.y := rfl
@[simp] theorem push_p (v : Byte) : (s.push v).p = s.p := rfl
@[simp] theorem push_mem (v : Byte) : (s.push v).mem = s.mem.writeByte (stackAddr s.sp).toNat v.toNat := rfl
@[simp] theorem push_engine (v : Byte) : (s.push v).engine = s.engine := rfl
@[simp] theorem push_resetDone (v : Byte) : (s.push v).resetDone = s.resetDone := rfl
@[simp] theorem push_term (v : Byte) : (s.push v).term = s.term := rfl
@[simp] theorem push_events (v : Byte) : (s.push v).events = s.events := rfl

/-! ### `pull` -/

@[simp] theorem pull_pc : (s.pull).pc = s.pc := rfl
@[simp] theorem pull_sp : (s.pull).sp = s.sp + 1 := rfl
@[simp] theorem pull_a : (s.pull).a = s.a := rfl
@[simp] theorem pull_x : (s.pull).x = s.x := rfl
@[simp] theorem pull_y : (s.pull).y = s.y := rfl
@[simp] theorem pull_p : (s.pull).p = s.p := rfl
@[simp] theorem pull_mem : (s.pull).mem = s.mem := rfl
@[simp] theorem pull_engine : (s.pull).engine = s.engine := rfl
@[simp] theorem pull_resetDone : (s.pull).resetDone = s.resetDone := rfl
@[simp] theorem pull_term : (s.pull).term = s.term := rfl
@[simp] theorem pull_events : (s.pull).events = s.events := rfl

/-! ### `retire` -/

@[simp] theorem retire_pc (w : Addr) : (retire w s).pc = w := rfl
@[simp] theorem retire_sp (w : Addr) : (retire w s).sp = s.sp := rfl
@[simp] theorem retire_a (w : Addr) : (retire w s).a = s.a := rfl
@[simp] theorem retire_x (w : Addr) : (retire w s).x = s.x := rfl
@[simp] theorem retire_y (w : Addr) : (retire w s).y = s.y := rfl
@[simp] theorem retire_p (w : Addr) : (retire w s).p = s.p := rfl
@[simp] theorem retire_mem (w : Addr) : (retire w s).mem = s.mem := rfl
@[simp] theorem retire_engine (w : Addr) : (retire w s).engine = s.engine := rfl
@[simp] theorem retire_resetDone (w : Addr) : (retire w s).resetDone = s.resetDone := rfl
@[simp] theorem retire_term (w : Addr) : (retire w s).term = s.term := rfl
@[simp] theorem retire_events (w : Addr) : (retire w s).events = s.events ++ [.snapshot (s.setPc w).snapshot] := rfl

/-! ### `enterTerminal` -/

@[simp] theorem enterTerminal_pc (sig : Signal) : (enterTerminal sig s).pc = s.pc := rfl
@[simp] theorem enterTerminal_sp (sig : Signal) : (enterTerminal sig s).sp = s.sp := rfl
@[simp] theorem enterTerminal_a (sig : Signal) : (enterTerminal sig s).a = s.a := rfl
@[simp] theorem enterTerminal_x (sig : Signal) : (enterTerminal sig s).x = s.x := rfl
@[simp] theorem enterTerminal_y (sig : Signal) : (enterTerminal sig s).y = s.y := rfl
@[simp] theorem enterTerminal_p (sig : Signal) : (enterTerminal sig s).p = s.p := rfl
@[simp] theorem enterTerminal_mem (sig : Signal) : (enterTerminal sig s).mem = s.mem := rfl
@[simp] theorem enterTerminal_engine (sig : Signal) : (enterTerminal sig s).engine = sig.engineState := rfl
@[simp] theorem enterTerminal_resetDone (sig : Signal) : (enterTerminal sig s).resetDone = s.resetDone := rfl
@[simp] theorem enterTerminal_term (sig : Signal) : (enterTerminal sig s).term = some sig := rfl
@[simp] theorem enterTerminal_events (sig : Signal) : (enterTerminal sig s).events = s.events ++ [sig.event] := rfl

/-! ### Snapshots and reads see only the fields they name -/

@[simp] theorem snapshot_emit (e : Event) : (s.emit e).snapshot = s.snapshot := rfl

@[simp] theorem snapshot_retire (w : Addr) : (retire w s).snapshot = (s.setPc w).snapshot := rfl

@[simp] theorem retire_reg (w : Addr) (r : Reg) : (retire w s).reg r = s.reg r := by cases r <;> rfl

theorem peek_congr {s t : State} (h : t.mem = s.mem) (k : Addr) : t.peek k = s.peek k := by
  simp only [State.peek, h]

theorem peekWord_congr {s t : State} (h : t.mem = s.mem) (k : Addr) : t.peekWord k = s.peekWord k := by
  simp only [State.peekWord, h]

@[simp] theorem peek_setReg (r : Reg) (v : Byte) (k : Addr) : (s.setReg r v).peek k = s.peek k := by cases r <;> rfl
@[simp] theorem peek_setFlags (q : Flags) (k : Addr) : (s.setFlags q).peek k = s.peek k := rfl
@[simp] theorem peek_setPc (w k : Addr) : (s.setPc w).peek k = s.peek k := rfl
@[simp] theorem peek_emit (e : Event) (k : Addr) : (s.emit e).peek k = s.peek k := rfl
@[simp] theorem peek_setRegZN (r : Reg) (v : Byte) (k : Addr) : (s.setRegZN r v).peek k = s.peek k := by cases r <;> rfl
@[simp] theorem peek_pull (k : Addr) : s.pull.peek k = s.peek k := rfl
@[simp] theorem peek_retire (w k : Addr) : (retire w s).peek k = s.peek k := rfl
@[simp] theorem peek_enterTerminal (sig : Signal) (k : Addr) : (enterTerminal sig s).peek k = s.peek k := rfl

end Sys2Proof.Machine
end

