-- ==== Sys2Proof/Laws/Memory.lean ====
section
/-!
SUPPORT. The laws of the Memory Bank (20_memory.md R51 to R54): a read after a write, the canonical form kept by
every operation, and equal memories being equal lists.
-/

namespace Sys2Proof.Machine

open Config

theorem wf_nil : Memory.wf [] := ⟨List.Pairwise.nil, fun _ h => absurd h List.not_mem_nil⟩

/-- The head of a canonical list: it is above nothing in the tail. -/
theorem wf_cons {c : Host.Cell} {m : Memory} :
    Memory.wf (c :: m) ↔ (∀ d ∈ m, c.1 < d.1) ∧ (c.1 < memorySize ∧ c.2 ≠ unlistedByte) ∧ Memory.wf m := by
  constructor
  · rintro ⟨hp, hc⟩
    obtain ⟨h1, h2⟩ := List.pairwise_cons.1 hp
    exact ⟨h1, hc c List.mem_cons_self, h2, fun d hd => hc d (List.mem_cons_of_mem _ hd)⟩
  · rintro ⟨h1, h2, h3, h4⟩
    exact ⟨List.pairwise_cons.2 ⟨h1, h3⟩, fun d hd => by
      rcases List.mem_cons.1 hd with rfl | hd
      · exact h2
      · exact h4 d hd⟩

/-- A key below every key of the list is not listed. -/
theorem get_of_lt {m : Memory} {k : Nat} (h : ∀ d ∈ m, k < d.1) : m.get k = unlistedByte := by
  cases m with
  | nil => rfl
  | cons c m => exact if_pos (h c List.mem_cons_self)

/-- What a list reads as with a cell put in front. -/
theorem get_consCell {m : Memory} {k : Nat} (v : Byte) (h : ∀ d ∈ m, k < d.1) (j : Nat) :
    (Memory.consCell k v m).get j = if j = k then v else m.get j := by
  unfold Memory.consCell
  split
  · rename_i hv
    by_cases hj : j = k
    · rw [if_pos hj, hj, hv, get_of_lt h]
    · rw [if_neg hj]
  · rw [Memory.get]
    by_cases hjk : j < k
    · rw [if_pos hjk, if_neg (Nat.ne_of_lt hjk), get_of_lt fun d hd => Nat.lt_trans hjk (h d hd)]
    · rw [if_neg hjk]

theorem mem_consCell {m : Memory} {k : Nat} {v : Byte} {d : Host.Cell} (h : d ∈ Memory.consCell k v m) :
    d = (k, v) ∨ d ∈ m := by
  unfold Memory.consCell at h
  split at h
  · exact Or.inr h
  · exact List.mem_cons.1 h

/-- Every key of the changed list is the changed key or an old one. -/
theorem mem_set {m : Memory} {k : Nat} {v : Byte} {d : Host.Cell} (h : d ∈ m.set k v) : d.1 = k ∨ d ∈ m := by
  induction m with
  | nil => rcases mem_consCell h with rfl | h <;> simp_all
  | cons c m ih =>
    rw [Memory.set] at h
    split at h
    · rcases mem_consCell h with rfl | h <;> simp_all
    · split at h
      · rcases mem_consCell h with rfl | h <;> simp_all
      · rcases List.mem_cons.1 h with rfl | h
        · simp
        · rcases ih h with h | h <;> simp [h]

/-- A read after a write (R51, R52), on keys. -/
theorem get_set {m : Memory} (hw : m.wf) (k : Nat) (v : Byte) (j : Nat) :
    (m.set k v).get j = if j = k then v else m.get j := by
  induction m with
  | nil => exact get_consCell v (fun _ h => absurd h List.not_mem_nil) j
  | cons c m ih =>
    obtain ⟨hlt, -, hm⟩ := wf_cons.1 hw
    rw [Memory.set]
    split
    · rename_i hk
      refine get_consCell v (fun d hd => ?_) j
      rcases List.mem_cons.1 hd with rfl | hd
      · exact hk
      · exact Nat.lt_trans hk (hlt d hd)
    · rename_i hk
      split
      · rename_i hk'
        rw [get_consCell v (hk' ▸ hlt) j, Memory.get]
        by_cases hj : j = k
        · rw [if_pos hj, if_pos hj]
        · rw [if_neg hj, if_neg hj]
          by_cases hjc : j < c.1
          · rw [if_pos hjc, get_of_lt fun d hd => Nat.lt_trans hjc (hlt d hd)]
          · rw [if_neg hjc, if_neg (hk' ▸ hj)]
      · rename_i hk'
        rw [Memory.get, Memory.get, ih hm]
        by_cases hj : j = k
        · subst hj
          rw [if_neg hk, if_neg hk', if_pos rfl, if_pos rfl]
        · rw [if_neg hj, if_neg hj]

theorem wf_consCell {m : Memory} {k : Nat} {v : Byte} (hk : k < memorySize) (h : ∀ d ∈ m, k < d.1) (hw : m.wf) :
    (Memory.consCell k v m).wf := by
  unfold Memory.consCell
  split
  · exact hw
  · exact wf_cons.2 ⟨h, ⟨hk, by assumption⟩, hw⟩

/-- A write keeps the canonical form. -/
theorem wf_set {m : Memory} {k : Nat} {v : Byte} (hk : k < memorySize) (hw : m.wf) : (m.set k v).wf := by
  induction m with
  | nil => exact wf_consCell hk (fun _ h => absurd h List.not_mem_nil) wf_nil
  | cons c m ih =>
    obtain ⟨hlt, hc, hm⟩ := wf_cons.1 hw
    rw [Memory.set]
    split
    · rename_i hkc
      refine wf_consCell hk (fun d hd => ?_) hw
      rcases List.mem_cons.1 hd with rfl | hd
      · exact hkc
      · exact Nat.lt_trans hkc (hlt d hd)
    · split
      · rename_i hkc
        exact wf_consCell hk (hkc ▸ hlt) hm
      · refine wf_cons.2 ⟨fun d hd => ?_, hc, ih hm⟩
        rcases mem_set hd with h | h
        · omega
        · exact hlt d h

theorem mod_memorySize_lt (k : Nat) : k % memorySize < memorySize := Nat.mod_lt _ (by decide)

theorem wf_writeByte {m : Memory} (hw : m.wf) (k v : Nat) : (m.writeByte k v).wf := wf_set (mod_memorySize_lt k) hw

theorem wf_copyBlock {m : Memory} (hw : m.wf) (bytes : List Nat) (start : Nat) : (m.copyBlock bytes start).wf := by
  induction bytes generalizing m start with
  | nil => exact hw
  | cons v vs ih => exact ih (wf_writeByte hw _ _) _

theorem wf_loadBlock {m m' : Memory} (hw : m.wf) {wrap : Bool} {bytes : List Nat} {start : Addr}
    (h : m.loadBlock wrap bytes start = some m') : m'.wf := by
  unfold Memory.loadBlock at h
  split at h
  · cases h
  · cases h
    exact wf_copyBlock hw _ _

/-- A read after a write, on addresses as the primitives take them. -/
theorem readByte_writeByte_key {m : Memory} (hw : m.wf) (k v j : Nat) :
    (m.writeByte k v).readByte j =
      if j % memorySize = k % memorySize then BitVec.ofNat 8 v else m.readByte j := get_set hw _ _ _

theorem toNat_mod_memorySize (k : Addr) : k.toNat % memorySize = k.toNat := Nat.mod_eq_of_lt k.isLt

/-- A read after a store, on 16-bit addresses. -/
theorem peek_poke {s : State} (hw : s.mem.wf) (k : Addr) (v : Byte) (j : Addr) :
    (s.poke k v).peek j = if j = k then v else s.peek j := by
  simp only [State.peek, poke_mem, readByte_writeByte_key hw, toNat_mod_memorySize, BitVec.toNat_inj,
    BitVec.ofNat_toNat, BitVec.setWidth_eq]

theorem wf_poke {s : State} (hw : s.mem.wf) (k : Addr) (v : Byte) : (s.poke k v).mem.wf := wf_writeByte hw _ _

theorem wf_push {s : State} (hw : s.mem.wf) (v : Byte) : (s.push v).mem.wf := wf_writeByte hw _ _

/-- A read after a push. -/
theorem peek_push {s : State} (hw : s.mem.wf) (v : Byte) (j : Addr) :
    (s.push v).peek j = if j = stackAddr s.sp then v else s.peek j := by
  rw [State.push, peek_setReg, peek_poke hw]

/-- `readWord` is the two bytes at an address and at the next one, modulo 65536. -/
theorem peekWord_eq (s : State) (k : Addr) : s.peekWord k = join (s.peek (k + 1)) (s.peek k) := by
  have h : (k + 1).toNat % memorySize = (k.toNat + 1) % memorySize := by
    simp [memorySize, BitVec.toNat_add]
  simp only [State.peekWord, Memory.readWord, State.peek, Memory.readByte, h]

/-- `{hi, lo}` as a number. -/
theorem toNat_join (hi lo : Byte) : (join hi lo).toNat = lo.toNat + 256 * hi.toNat := by
  rw [join, BitVec.toNat_append, Nat.shiftLeft_eq, Nat.mul_comm, Nat.add_comm]
  exact (Nat.two_pow_add_eq_or_of_lt lo.isLt hi.toNat).symm

@[simp] theorem loByte_join (hi lo : Byte) : loByte (join hi lo) = lo := by
  apply BitVec.eq_of_toNat_eq
  simp only [loByte, BitVec.extractLsb'_toNat, toNat_join]
  have := lo.isLt; omega

@[simp] theorem hiByte_join (hi lo : Byte) : hiByte (join hi lo) = hi := by
  apply BitVec.eq_of_toNat_eq
  simp only [hiByte, BitVec.extractLsb'_toNat, toNat_join, Nat.shiftRight_eq_div_pow]
  have := lo.isLt; have := hi.isLt; omega

@[simp] theorem join_hiByte_loByte (w : Addr) : join (hiByte w) (loByte w) = w := by
  apply BitVec.eq_of_toNat_eq
  simp only [toNat_join, hiByte, loByte, BitVec.extractLsb'_toNat, Nat.shiftRight_eq_div_pow]
  have := w.isLt; omega

/-- Two canonical memories that read alike at every key are the same list. -/
theorem wf_ext {m m' : Memory} (hw : m.wf) (hw' : m'.wf) (h : ∀ k, m.get k = m'.get k) : m = m' := by
  induction m generalizing m' with
  | nil =>
    cases m' with
    | nil => rfl
    | cons d m' =>
      have := h d.1
      rw [Memory.get, Memory.get, if_neg (lt_irrefl _), if_pos rfl] at this
      exact absurd this.symm (wf_cons.1 hw').2.1.2
  | cons c m ih =>
    obtain ⟨hlt, hc, hm⟩ := wf_cons.1 hw
    cases m' with
    | nil =>
      have := h c.1
      rw [Memory.get, Memory.get, if_neg (lt_irrefl _), if_pos rfl] at this
      exact absurd this hc.2
    | cons d m' =>
      obtain ⟨hlt', hd, hm'⟩ := wf_cons.1 hw'
      have hcd : c.1 = d.1 := by
        have h1 := h c.1
        have h2 := h d.1
        simp only [Memory.get, lt_irrefl, if_false, if_true] at h1 h2
        by_contra hne
        rcases Nat.lt_or_gt_of_ne hne with hlt1 | hlt1
        · rw [if_pos hlt1] at h1
          exact hc.2 h1
        · rw [if_pos hlt1] at h2
          exact hd.2 h2.symm
      have hv : c.2 = d.2 := by
        have h1 := h c.1
        simp only [Memory.get, lt_irrefl, if_false, if_true, ← hcd] at h1
        exact h1
      have htail : m = m' := ih hm hm' fun k => by
        have hk := h k
        simp only [Memory.get, ← hcd] at hk
        by_cases h1 : k < c.1
        · rw [get_of_lt fun e he => Nat.lt_trans h1 (hlt e he),
            get_of_lt fun e he => Nat.lt_trans h1 (hcd ▸ hlt' e he)]
        · by_cases h2 : k = c.1
          · rw [h2, get_of_lt hlt, get_of_lt (hcd ▸ hlt')]
          · simpa only [if_neg h1, if_neg h2] using hk
      rw [htail, Prod.ext hcd hv]

end Sys2Proof.Machine
end

