-- ==== Sys2Proof/Laws/PerInstr.lean ====
section
/-!
SUPPORT. The family `OpcodeInT151`: for each instruction, the opcode byte the encoder gives it (written from
30_encoding.md R88) is a row of the table `T151` (written in the order of R89), with the instruction's mnemonic,
its mode and its length. One lemma per constructor of `Instr`.
-/

namespace Sys2Proof.Laws.OpcodeInT151

/-- `T151` has, at the instruction's opcode byte, the instruction's own entry. -/
def Statement (i : Instr) : Prop :=
  T151.lookup i.opcode = some ⟨i.opcode, i.mnemonic, some i.mode, i.length⟩

theorem ldaImm (v : Byte) : Statement (.ldaImm v) := by
  show T151.lookup 0xA9 = some (row 0xA9 .LDA .imm 2)
  decide
theorem ldaZp (b1 : Byte) : Statement (.ldaZp b1) := by
  show T151.lookup 0xA5 = some (row 0xA5 .LDA .zp 2)
  decide
theorem ldaZpx (b1 : Byte) : Statement (.ldaZpx b1) := by
  show T151.lookup 0xB5 = some (row 0xB5 .LDA .zpx 2)
  decide
theorem ldaIzx (b1 : Byte) : Statement (.ldaIzx b1) := by
  show T151.lookup 0xA1 = some (row 0xA1 .LDA .izx 2)
  decide
theorem ldaIzy (b1 : Byte) : Statement (.ldaIzy b1) := by
  show T151.lookup 0xB1 = some (row 0xB1 .LDA .izy 2)
  decide
theorem ldaAbs (a : Addr) : Statement (.ldaAbs a) := by
  show T151.lookup 0xAD = some (row 0xAD .LDA .abs 3)
  decide
theorem ldaAbx (a : Addr) : Statement (.ldaAbx a) := by
  show T151.lookup 0xBD = some (row 0xBD .LDA .abx 3)
  decide
theorem ldaAby (a : Addr) : Statement (.ldaAby a) := by
  show T151.lookup 0xB9 = some (row 0xB9 .LDA .aby 3)
  decide
theorem ldxImm (v : Byte) : Statement (.ldxImm v) := by
  show T151.lookup 0xA2 = some (row 0xA2 .LDX .imm 2)
  decide
theorem ldxZp (b1 : Byte) : Statement (.ldxZp b1) := by
  show T151.lookup 0xA6 = some (row 0xA6 .LDX .zp 2)
  decide
theorem ldxZpy (b1 : Byte) : Statement (.ldxZpy b1) := by
  show T151.lookup 0xB6 = some (row 0xB6 .LDX .zpy 2)
  decide
theorem ldxAbs (a : Addr) : Statement (.ldxAbs a) := by
  show T151.lookup 0xAE = some (row 0xAE .LDX .abs 3)
  decide
theorem ldxAby (a : Addr) : Statement (.ldxAby a) := by
  show T151.lookup 0xBE = some (row 0xBE .LDX .aby 3)
  decide
theorem ldyImm (v : Byte) : Statement (.ldyImm v) := by
  show T151.lookup 0xA0 = some (row 0xA0 .LDY .imm 2)
  decide
theorem ldyZp (b1 : Byte) : Statement (.ldyZp b1) := by
  show T151.lookup 0xA4 = some (row 0xA4 .LDY .zp 2)
  decide
theorem ldyZpx (b1 : Byte) : Statement (.ldyZpx b1) := by
  show T151.lookup 0xB4 = some (row 0xB4 .LDY .zpx 2)
  decide
theorem ldyAbs (a : Addr) : Statement (.ldyAbs a) := by
  show T151.lookup 0xAC = some (row 0xAC .LDY .abs 3)
  decide
theorem ldyAbx (a : Addr) : Statement (.ldyAbx a) := by
  show T151.lookup 0xBC = some (row 0xBC .LDY .abx 3)
  decide
theorem staZp (b1 : Byte) : Statement (.staZp b1) := by
  show T151.lookup 0x85 = some (row 0x85 .STA .zp 2)
  decide
theorem staZpx (b1 : Byte) : Statement (.staZpx b1) := by
  show T151.lookup 0x95 = some (row 0x95 .STA .zpx 2)
  decide
theorem staIzx (b1 : Byte) : Statement (.staIzx b1) := by
  show T151.lookup 0x81 = some (row 0x81 .STA .izx 2)
  decide
theorem staIzy (b1 : Byte) : Statement (.staIzy b1) := by
  show T151.lookup 0x91 = some (row 0x91 .STA .izy 2)
  decide
theorem staAbs (a : Addr) : Statement (.staAbs a) := by
  show T151.lookup 0x8D = some (row 0x8D .STA .abs 3)
  decide
theorem staAbx (a : Addr) : Statement (.staAbx a) := by
  show T151.lookup 0x9D = some (row 0x9D .STA .abx 3)
  decide
theorem staAby (a : Addr) : Statement (.staAby a) := by
  show T151.lookup 0x99 = some (row 0x99 .STA .aby 3)
  decide
theorem stxZp (b1 : Byte) : Statement (.stxZp b1) := by
  show T151.lookup 0x86 = some (row 0x86 .STX .zp 2)
  decide
theorem stxZpy (b1 : Byte) : Statement (.stxZpy b1) := by
  show T151.lookup 0x96 = some (row 0x96 .STX .zpy 2)
  decide
theorem stxAbs (a : Addr) : Statement (.stxAbs a) := by
  show T151.lookup 0x8E = some (row 0x8E .STX .abs 3)
  decide
theorem styZp (b1 : Byte) : Statement (.styZp b1) := by
  show T151.lookup 0x84 = some (row 0x84 .STY .zp 2)
  decide
theorem styZpx (b1 : Byte) : Statement (.styZpx b1) := by
  show T151.lookup 0x94 = some (row 0x94 .STY .zpx 2)
  decide
theorem styAbs (a : Addr) : Statement (.styAbs a) := by
  show T151.lookup 0x8C = some (row 0x8C .STY .abs 3)
  decide
theorem tax : Statement .tax := by
  show T151.lookup 0xAA = some (row 0xAA .TAX .imp 1)
  decide
theorem tay : Statement .tay := by
  show T151.lookup 0xA8 = some (row 0xA8 .TAY .imp 1)
  decide
theorem txa : Statement .txa := by
  show T151.lookup 0x8A = some (row 0x8A .TXA .imp 1)
  decide
theorem tya : Statement .tya := by
  show T151.lookup 0x98 = some (row 0x98 .TYA .imp 1)
  decide
theorem tsx : Statement .tsx := by
  show T151.lookup 0xBA = some (row 0xBA .TSX .imp 1)
  decide
theorem txs : Statement .txs := by
  show T151.lookup 0x9A = some (row 0x9A .TXS .imp 1)
  decide
theorem adcImm (v : Byte) : Statement (.adcImm v) := by
  show T151.lookup 0x69 = some (row 0x69 .ADC .imm 2)
  decide
theorem adcZp (b1 : Byte) : Statement (.adcZp b1) := by
  show T151.lookup 0x65 = some (row 0x65 .ADC .zp 2)
  decide
theorem adcZpx (b1 : Byte) : Statement (.adcZpx b1) := by
  show T151.lookup 0x75 = some (row 0x75 .ADC .zpx 2)
  decide
theorem adcIzx (b1 : Byte) : Statement (.adcIzx b1) := by
  show T151.lookup 0x61 = some (row 0x61 .ADC .izx 2)
  decide
theorem adcIzy (b1 : Byte) : Statement (.adcIzy b1) := by
  show T151.lookup 0x71 = some (row 0x71 .ADC .izy 2)
  decide
theorem adcAbs (a : Addr) : Statement (.adcAbs a) := by
  show T151.lookup 0x6D = some (row 0x6D .ADC .abs 3)
  decide
theorem adcAbx (a : Addr) : Statement (.adcAbx a) := by
  show T151.lookup 0x7D = some (row 0x7D .ADC .abx 3)
  decide
theorem adcAby (a : Addr) : Statement (.adcAby a) := by
  show T151.lookup 0x79 = some (row 0x79 .ADC .aby 3)
  decide
theorem sbcImm (v : Byte) : Statement (.sbcImm v) := by
  show T151.lookup 0xE9 = some (row 0xE9 .SBC .imm 2)
  decide
theorem sbcZp (b1 : Byte) : Statement (.sbcZp b1) := by
  show T151.lookup 0xE5 = some (row 0xE5 .SBC .zp 2)
  decide
theorem sbcZpx (b1 : Byte) : Statement (.sbcZpx b1) := by
  show T151.lookup 0xF5 = some (row 0xF5 .SBC .zpx 2)
  decide
theorem sbcIzx (b1 : Byte) : Statement (.sbcIzx b1) := by
  show T151.lookup 0xE1 = some (row 0xE1 .SBC .izx 2)
  decide
theorem sbcIzy (b1 : Byte) : Statement (.sbcIzy b1) := by
  show T151.lookup 0xF1 = some (row 0xF1 .SBC .izy 2)
  decide
theorem sbcAbs (a : Addr) : Statement (.sbcAbs a) := by
  show T151.lookup 0xED = some (row 0xED .SBC .abs 3)
  decide
theorem sbcAbx (a : Addr) : Statement (.sbcAbx a) := by
  show T151.lookup 0xFD = some (row 0xFD .SBC .abx 3)
  decide
theorem sbcAby (a : Addr) : Statement (.sbcAby a) := by
  show T151.lookup 0xF9 = some (row 0xF9 .SBC .aby 3)
  decide
theorem andImm (v : Byte) : Statement (.andImm v) := by
  show T151.lookup 0x29 = some (row 0x29 .AND .imm 2)
  decide
theorem andZp (b1 : Byte) : Statement (.andZp b1) := by
  show T151.lookup 0x25 = some (row 0x25 .AND .zp 2)
  decide
theorem andZpx (b1 : Byte) : Statement (.andZpx b1) := by
  show T151.lookup 0x35 = some (row 0x35 .AND .zpx 2)
  decide
theorem andIzx (b1 : Byte) : Statement (.andIzx b1) := by
  show T151.lookup 0x21 = some (row 0x21 .AND .izx 2)
  decide
theorem andIzy (b1 : Byte) : Statement (.andIzy b1) := by
  show T151.lookup 0x31 = some (row 0x31 .AND .izy 2)
  decide
theorem andAbs (a : Addr) : Statement (.andAbs a) := by
  show T151.lookup 0x2D = some (row 0x2D .AND .abs 3)
  decide
theorem andAbx (a : Addr) : Statement (.andAbx a) := by
  show T151.lookup 0x3D = some (row 0x3D .AND .abx 3)
  decide
theorem andAby (a : Addr) : Statement (.andAby a) := by
  show T151.lookup 0x39 = some (row 0x39 .AND .aby 3)
  decide
theorem oraImm (v : Byte) : Statement (.oraImm v) := by
  show T151.lookup 0x09 = some (row 0x09 .ORA .imm 2)
  decide
theorem oraZp (b1 : Byte) : Statement (.oraZp b1) := by
  show T151.lookup 0x05 = some (row 0x05 .ORA .zp 2)
  decide
theorem oraZpx (b1 : Byte) : Statement (.oraZpx b1) := by
  show T151.lookup 0x15 = some (row 0x15 .ORA .zpx 2)
  decide
theorem oraIzx (b1 : Byte) : Statement (.oraIzx b1) := by
  show T151.lookup 0x01 = some (row 0x01 .ORA .izx 2)
  decide
theorem oraIzy (b1 : Byte) : Statement (.oraIzy b1) := by
  show T151.lookup 0x11 = some (row 0x11 .ORA .izy 2)
  decide
theorem oraAbs (a : Addr) : Statement (.oraAbs a) := by
  show T151.lookup 0x0D = some (row 0x0D .ORA .abs 3)
  decide
theorem oraAbx (a : Addr) : Statement (.oraAbx a) := by
  show T151.lookup 0x1D = some (row 0x1D .ORA .abx 3)
  decide
theorem oraAby (a : Addr) : Statement (.oraAby a) := by
  show T151.lookup 0x19 = some (row 0x19 .ORA .aby 3)
  decide
theorem eorImm (v : Byte) : Statement (.eorImm v) := by
  show T151.lookup 0x49 = some (row 0x49 .EOR .imm 2)
  decide
theorem eorZp (b1 : Byte) : Statement (.eorZp b1) := by
  show T151.lookup 0x45 = some (row 0x45 .EOR .zp 2)
  decide
theorem eorZpx (b1 : Byte) : Statement (.eorZpx b1) := by
  show T151.lookup 0x55 = some (row 0x55 .EOR .zpx 2)
  decide
theorem eorIzx (b1 : Byte) : Statement (.eorIzx b1) := by
  show T151.lookup 0x41 = some (row 0x41 .EOR .izx 2)
  decide
theorem eorIzy (b1 : Byte) : Statement (.eorIzy b1) := by
  show T151.lookup 0x51 = some (row 0x51 .EOR .izy 2)
  decide
theorem eorAbs (a : Addr) : Statement (.eorAbs a) := by
  show T151.lookup 0x4D = some (row 0x4D .EOR .abs 3)
  decide
theorem eorAbx (a : Addr) : Statement (.eorAbx a) := by
  show T151.lookup 0x5D = some (row 0x5D .EOR .abx 3)
  decide
theorem eorAby (a : Addr) : Statement (.eorAby a) := by
  show T151.lookup 0x59 = some (row 0x59 .EOR .aby 3)
  decide
theorem cmpImm (v : Byte) : Statement (.cmpImm v) := by
  show T151.lookup 0xC9 = some (row 0xC9 .CMP .imm 2)
  decide
theorem cmpZp (b1 : Byte) : Statement (.cmpZp b1) := by
  show T151.lookup 0xC5 = some (row 0xC5 .CMP .zp 2)
  decide
theorem cmpZpx (b1 : Byte) : Statement (.cmpZpx b1) := by
  show T151.lookup 0xD5 = some (row 0xD5 .CMP .zpx 2)
  decide
theorem cmpIzx (b1 : Byte) : Statement (.cmpIzx b1) := by
  show T151.lookup 0xC1 = some (row 0xC1 .CMP .izx 2)
  decide
theorem cmpIzy (b1 : Byte) : Statement (.cmpIzy b1) := by
  show T151.lookup 0xD1 = some (row 0xD1 .CMP .izy 2)
  decide
theorem cmpAbs (a : Addr) : Statement (.cmpAbs a) := by
  show T151.lookup 0xCD = some (row 0xCD .CMP .abs 3)
  decide
theorem cmpAbx (a : Addr) : Statement (.cmpAbx a) := by
  show T151.lookup 0xDD = some (row 0xDD .CMP .abx 3)
  decide
theorem cmpAby (a : Addr) : Statement (.cmpAby a) := by
  show T151.lookup 0xD9 = some (row 0xD9 .CMP .aby 3)
  decide
theorem cpxImm (v : Byte) : Statement (.cpxImm v) := by
  show T151.lookup 0xE0 = some (row 0xE0 .CPX .imm 2)
  decide
theorem cpxZp (b1 : Byte) : Statement (.cpxZp b1) := by
  show T151.lookup 0xE4 = some (row 0xE4 .CPX .zp 2)
  decide
theorem cpxAbs (a : Addr) : Statement (.cpxAbs a) := by
  show T151.lookup 0xEC = some (row 0xEC .CPX .abs 3)
  decide
theorem cpyImm (v : Byte) : Statement (.cpyImm v) := by
  show T151.lookup 0xC0 = some (row 0xC0 .CPY .imm 2)
  decide
theorem cpyZp (b1 : Byte) : Statement (.cpyZp b1) := by
  show T151.lookup 0xC4 = some (row 0xC4 .CPY .zp 2)
  decide
theorem cpyAbs (a : Addr) : Statement (.cpyAbs a) := by
  show T151.lookup 0xCC = some (row 0xCC .CPY .abs 3)
  decide
theorem bitZp (b1 : Byte) : Statement (.bitZp b1) := by
  show T151.lookup 0x24 = some (row 0x24 .BIT .zp 2)
  decide
theorem bitAbs (a : Addr) : Statement (.bitAbs a) := by
  show T151.lookup 0x2C = some (row 0x2C .BIT .abs 3)
  decide
theorem incZp (b1 : Byte) : Statement (.incZp b1) := by
  show T151.lookup 0xE6 = some (row 0xE6 .INC .zp 2)
  decide
theorem incZpx (b1 : Byte) : Statement (.incZpx b1) := by
  show T151.lookup 0xF6 = some (row 0xF6 .INC .zpx 2)
  decide
theorem incAbs (a : Addr) : Statement (.incAbs a) := by
  show T151.lookup 0xEE = some (row 0xEE .INC .abs 3)
  decide
theorem incAbx (a : Addr) : Statement (.incAbx a) := by
  show T151.lookup 0xFE = some (row 0xFE .INC .abx 3)
  decide
theorem decZp (b1 : Byte) : Statement (.decZp b1) := by
  show T151.lookup 0xC6 = some (row 0xC6 .DEC .zp 2)
  decide
theorem decZpx (b1 : Byte) : Statement (.decZpx b1) := by
  show T151.lookup 0xD6 = some (row 0xD6 .DEC .zpx 2)
  decide
theorem decAbs (a : Addr) : Statement (.decAbs a) := by
  show T151.lookup 0xCE = some (row 0xCE .DEC .abs 3)
  decide
theorem decAbx (a : Addr) : Statement (.decAbx a) := by
  show T151.lookup 0xDE = some (row 0xDE .DEC .abx 3)
  decide
theorem inx : Statement .inx := by
  show T151.lookup 0xE8 = some (row 0xE8 .INX .imp 1)
  decide
theorem iny : Statement .iny := by
  show T151.lookup 0xC8 = some (row 0xC8 .INY .imp 1)
  decide
theorem dex : Statement .dex := by
  show T151.lookup 0xCA = some (row 0xCA .DEX .imp 1)
  decide
theorem dey : Statement .dey := by
  show T151.lookup 0x88 = some (row 0x88 .DEY .imp 1)
  decide
theorem aslAcc : Statement .aslAcc := by
  show T151.lookup 0x0A = some (row 0x0A .ASL .acc 1)
  decide
theorem aslZp (b1 : Byte) : Statement (.aslZp b1) := by
  show T151.lookup 0x06 = some (row 0x06 .ASL .zp 2)
  decide
theorem aslZpx (b1 : Byte) : Statement (.aslZpx b1) := by
  show T151.lookup 0x16 = some (row 0x16 .ASL .zpx 2)
  decide
theorem aslAbs (a : Addr) : Statement (.aslAbs a) := by
  show T151.lookup 0x0E = some (row 0x0E .ASL .abs 3)
  decide
theorem aslAbx (a : Addr) : Statement (.aslAbx a) := by
  show T151.lookup 0x1E = some (row 0x1E .ASL .abx 3)
  decide
theorem lsrAcc : Statement .lsrAcc := by
  show T151.lookup 0x4A = some (row 0x4A .LSR .acc 1)
  decide
theorem lsrZp (b1 : Byte) : Statement (.lsrZp b1) := by
  show T151.lookup 0x46 = some (row 0x46 .LSR .zp 2)
  decide
theorem lsrZpx (b1 : Byte) : Statement (.lsrZpx b1) := by
  show T151.lookup 0x56 = some (row 0x56 .LSR .zpx 2)
  decide
theorem lsrAbs (a : Addr) : Statement (.lsrAbs a) := by
  show T151.lookup 0x4E = some (row 0x4E .LSR .abs 3)
  decide
theorem lsrAbx (a : Addr) : Statement (.lsrAbx a) := by
  show T151.lookup 0x5E = some (row 0x5E .LSR .abx 3)
  decide
theorem rolAcc : Statement .rolAcc := by
  show T151.lookup 0x2A = some (row 0x2A .ROL .acc 1)
  decide
theorem rolZp (b1 : Byte) : Statement (.rolZp b1) := by
  show T151.lookup 0x26 = some (row 0x26 .ROL .zp 2)
  decide
theorem rolZpx (b1 : Byte) : Statement (.rolZpx b1) := by
  show T151.lookup 0x36 = some (row 0x36 .ROL .zpx 2)
  decide
theorem rolAbs (a : Addr) : Statement (.rolAbs a) := by
  show T151.lookup 0x2E = some (row 0x2E .ROL .abs 3)
  decide
theorem rolAbx (a : Addr) : Statement (.rolAbx a) := by
  show T151.lookup 0x3E = some (row 0x3E .ROL .abx 3)
  decide
theorem rorAcc : Statement .rorAcc := by
  show T151.lookup 0x6A = some (row 0x6A .ROR .acc 1)
  decide
theorem rorZp (b1 : Byte) : Statement (.rorZp b1) := by
  show T151.lookup 0x66 = some (row 0x66 .ROR .zp 2)
  decide
theorem rorZpx (b1 : Byte) : Statement (.rorZpx b1) := by
  show T151.lookup 0x76 = some (row 0x76 .ROR .zpx 2)
  decide
theorem rorAbs (a : Addr) : Statement (.rorAbs a) := by
  show T151.lookup 0x6E = some (row 0x6E .ROR .abs 3)
  decide
theorem rorAbx (a : Addr) : Statement (.rorAbx a) := by
  show T151.lookup 0x7E = some (row 0x7E .ROR .abx 3)
  decide
theorem jmpAbs (a : Addr) : Statement (.jmpAbs a) := by
  show T151.lookup 0x4C = some (row 0x4C .JMP .abs 3)
  decide
theorem jmpInd (a : Addr) : Statement (.jmpInd a) := by
  show T151.lookup 0x6C = some (row 0x6C .JMP .ind 3)
  decide
theorem jsr (a : Addr) : Statement (.jsr a) := by
  show T151.lookup 0x20 = some (row 0x20 .JSR .abs 3)
  decide
theorem rts : Statement .rts := by
  show T151.lookup 0x60 = some (row 0x60 .RTS .imp 1)
  decide
theorem rti : Statement .rti := by
  show T151.lookup 0x40 = some (row 0x40 .RTI .imp 1)
  decide
theorem bcc (b1 : Byte) : Statement (.bcc b1) := by
  show T151.lookup 0x90 = some (row 0x90 .BCC .rel 2)
  decide
theorem bcs (b1 : Byte) : Statement (.bcs b1) := by
  show T151.lookup 0xB0 = some (row 0xB0 .BCS .rel 2)
  decide
theorem beq (b1 : Byte) : Statement (.beq b1) := by
  show T151.lookup 0xF0 = some (row 0xF0 .BEQ .rel 2)
  decide
theorem bne (b1 : Byte) : Statement (.bne b1) := by
  show T151.lookup 0xD0 = some (row 0xD0 .BNE .rel 2)
  decide
theorem bmi (b1 : Byte) : Statement (.bmi b1) := by
  show T151.lookup 0x30 = some (row 0x30 .BMI .rel 2)
  decide
theorem bpl (b1 : Byte) : Statement (.bpl b1) := by
  show T151.lookup 0x10 = some (row 0x10 .BPL .rel 2)
  decide
theorem bvc (b1 : Byte) : Statement (.bvc b1) := by
  show T151.lookup 0x50 = some (row 0x50 .BVC .rel 2)
  decide
theorem bvs (b1 : Byte) : Statement (.bvs b1) := by
  show T151.lookup 0x70 = some (row 0x70 .BVS .rel 2)
  decide
theorem pha : Statement .pha := by
  show T151.lookup 0x48 = some (row 0x48 .PHA .imp 1)
  decide
theorem php : Statement .php := by
  show T151.lookup 0x08 = some (row 0x08 .PHP .imp 1)
  decide
theorem pla : Statement .pla := by
  show T151.lookup 0x68 = some (row 0x68 .PLA .imp 1)
  decide
theorem plp : Statement .plp := by
  show T151.lookup 0x28 = some (row 0x28 .PLP .imp 1)
  decide
theorem clc : Statement .clc := by
  show T151.lookup 0x18 = some (row 0x18 .CLC .imp 1)
  decide
theorem sec : Statement .sec := by
  show T151.lookup 0x38 = some (row 0x38 .SEC .imp 1)
  decide
theorem cli : Statement .cli := by
  show T151.lookup 0x58 = some (row 0x58 .CLI .imp 1)
  decide
theorem sei : Statement .sei := by
  show T151.lookup 0x78 = some (row 0x78 .SEI .imp 1)
  decide
theorem cld : Statement .cld := by
  show T151.lookup 0xD8 = some (row 0xD8 .CLD .imp 1)
  decide
theorem sed : Statement .sed := by
  show T151.lookup 0xF8 = some (row 0xF8 .SED .imp 1)
  decide
theorem clv : Statement .clv := by
  show T151.lookup 0xB8 = some (row 0xB8 .CLV .imp 1)
  decide
theorem nop : Statement .nop := by
  show T151.lookup 0xEA = some (row 0xEA .NOP .imp 1)
  decide
theorem brk : Statement .brk := by
  show T151.lookup 0x00 = some (row 0x00 .BRK .imp 1)
  decide

end Sys2Proof.Laws.OpcodeInT151

namespace Sys2Proof.Laws

/-- The family for every instruction. -/
theorem lookup_opcode (i : Instr) : OpcodeInT151.Statement i :=
  match i with
  | .ldaImm v => OpcodeInT151.ldaImm v
  | .ldaZp b1 => OpcodeInT151.ldaZp b1
  | .ldaZpx b1 => OpcodeInT151.ldaZpx b1
  | .ldaIzx b1 => OpcodeInT151.ldaIzx b1
  | .ldaIzy b1 => OpcodeInT151.ldaIzy b1
  | .ldaAbs a => OpcodeInT151.ldaAbs a
  | .ldaAbx a => OpcodeInT151.ldaAbx a
  | .ldaAby a => OpcodeInT151.ldaAby a
  | .ldxImm v => OpcodeInT151.ldxImm v
  | .ldxZp b1 => OpcodeInT151.ldxZp b1
  | .ldxZpy b1 => OpcodeInT151.ldxZpy b1
  | .ldxAbs a => OpcodeInT151.ldxAbs a
  | .ldxAby a => OpcodeInT151.ldxAby a
  | .ldyImm v => OpcodeInT151.ldyImm v
  | .ldyZp b1 => OpcodeInT151.ldyZp b1
  | .ldyZpx b1 => OpcodeInT151.ldyZpx b1
  | .ldyAbs a => OpcodeInT151.ldyAbs a
  | .ldyAbx a => OpcodeInT151.ldyAbx a
  | .staZp b1 => OpcodeInT151.staZp b1
  | .staZpx b1 => OpcodeInT151.staZpx b1
  | .staIzx b1 => OpcodeInT151.staIzx b1
  | .staIzy b1 => OpcodeInT151.staIzy b1
  | .staAbs a => OpcodeInT151.staAbs a
  | .staAbx a => OpcodeInT151.staAbx a
  | .staAby a => OpcodeInT151.staAby a
  | .stxZp b1 => OpcodeInT151.stxZp b1
  | .stxZpy b1 => OpcodeInT151.stxZpy b1
  | .stxAbs a => OpcodeInT151.stxAbs a
  | .styZp b1 => OpcodeInT151.styZp b1
  | .styZpx b1 => OpcodeInT151.styZpx b1
  | .styAbs a => OpcodeInT151.styAbs a
  | .tax => OpcodeInT151.tax
  | .tay => OpcodeInT151.tay
  | .txa => OpcodeInT151.txa
  | .tya => OpcodeInT151.tya
  | .tsx => OpcodeInT151.tsx
  | .txs => OpcodeInT151.txs
  | .adcImm v => OpcodeInT151.adcImm v
  | .adcZp b1 => OpcodeInT151.adcZp b1
  | .adcZpx b1 => OpcodeInT151.adcZpx b1
  | .adcIzx b1 => OpcodeInT151.adcIzx b1
  | .adcIzy b1 => OpcodeInT151.adcIzy b1
  | .adcAbs a => OpcodeInT151.adcAbs a
  | .adcAbx a => OpcodeInT151.adcAbx a
  | .adcAby a => OpcodeInT151.adcAby a
  | .sbcImm v => OpcodeInT151.sbcImm v
  | .sbcZp b1 => OpcodeInT151.sbcZp b1
  | .sbcZpx b1 => OpcodeInT151.sbcZpx b1
  | .sbcIzx b1 => OpcodeInT151.sbcIzx b1
  | .sbcIzy b1 => OpcodeInT151.sbcIzy b1
  | .sbcAbs a => OpcodeInT151.sbcAbs a
  | .sbcAbx a => OpcodeInT151.sbcAbx a
  | .sbcAby a => OpcodeInT151.sbcAby a
  | .andImm v => OpcodeInT151.andImm v
  | .andZp b1 => OpcodeInT151.andZp b1
  | .andZpx b1 => OpcodeInT151.andZpx b1
  | .andIzx b1 => OpcodeInT151.andIzx b1
  | .andIzy b1 => OpcodeInT151.andIzy b1
  | .andAbs a => OpcodeInT151.andAbs a
  | .andAbx a => OpcodeInT151.andAbx a
  | .andAby a => OpcodeInT151.andAby a
  | .oraImm v => OpcodeInT151.oraImm v
  | .oraZp b1 => OpcodeInT151.oraZp b1
  | .oraZpx b1 => OpcodeInT151.oraZpx b1
  | .oraIzx b1 => OpcodeInT151.oraIzx b1
  | .oraIzy b1 => OpcodeInT151.oraIzy b1
  | .oraAbs a => OpcodeInT151.oraAbs a
  | .oraAbx a => OpcodeInT151.oraAbx a
  | .oraAby a => OpcodeInT151.oraAby a
  | .eorImm v => OpcodeInT151.eorImm v
  | .eorZp b1 => OpcodeInT151.eorZp b1
  | .eorZpx b1 => OpcodeInT151.eorZpx b1
  | .eorIzx b1 => OpcodeInT151.eorIzx b1
  | .eorIzy b1 => OpcodeInT151.eorIzy b1
  | .eorAbs a => OpcodeInT151.eorAbs a
  | .eorAbx a => OpcodeInT151.eorAbx a
  | .eorAby a => OpcodeInT151.eorAby a
  | .cmpImm v => OpcodeInT151.cmpImm v
  | .cmpZp b1 => OpcodeInT151.cmpZp b1
  | .cmpZpx b1 => OpcodeInT151.cmpZpx b1
  | .cmpIzx b1 => OpcodeInT151.cmpIzx b1
  | .cmpIzy b1 => OpcodeInT151.cmpIzy b1
  | .cmpAbs a => OpcodeInT151.cmpAbs a
  | .cmpAbx a => OpcodeInT151.cmpAbx a
  | .cmpAby a => OpcodeInT151.cmpAby a
  | .cpxImm v => OpcodeInT151.cpxImm v
  | .cpxZp b1 => OpcodeInT151.cpxZp b1
  | .cpxAbs a => OpcodeInT151.cpxAbs a
  | .cpyImm v => OpcodeInT151.cpyImm v
  | .cpyZp b1 => OpcodeInT151.cpyZp b1
  | .cpyAbs a => OpcodeInT151.cpyAbs a
  | .bitZp b1 => OpcodeInT151.bitZp b1
  | .bitAbs a => OpcodeInT151.bitAbs a
  | .incZp b1 => OpcodeInT151.incZp b1
  | .incZpx b1 => OpcodeInT151.incZpx b1
  | .incAbs a => OpcodeInT151.incAbs a
  | .incAbx a => OpcodeInT151.incAbx a
  | .decZp b1 => OpcodeInT151.decZp b1
  | .decZpx b1 => OpcodeInT151.decZpx b1
  | .decAbs a => OpcodeInT151.decAbs a
  | .decAbx a => OpcodeInT151.decAbx a
  | .inx => OpcodeInT151.inx
  | .iny => OpcodeInT151.iny
  | .dex => OpcodeInT151.dex
  | .dey => OpcodeInT151.dey
  | .aslAcc => OpcodeInT151.aslAcc
  | .aslZp b1 => OpcodeInT151.aslZp b1
  | .aslZpx b1 => OpcodeInT151.aslZpx b1
  | .aslAbs a => OpcodeInT151.aslAbs a
  | .aslAbx a => OpcodeInT151.aslAbx a
  | .lsrAcc => OpcodeInT151.lsrAcc
  | .lsrZp b1 => OpcodeInT151.lsrZp b1
  | .lsrZpx b1 => OpcodeInT151.lsrZpx b1
  | .lsrAbs a => OpcodeInT151.lsrAbs a
  | .lsrAbx a => OpcodeInT151.lsrAbx a
  | .rolAcc => OpcodeInT151.rolAcc
  | .rolZp b1 => OpcodeInT151.rolZp b1
  | .rolZpx b1 => OpcodeInT151.rolZpx b1
  | .rolAbs a => OpcodeInT151.rolAbs a
  | .rolAbx a => OpcodeInT151.rolAbx a
  | .rorAcc => OpcodeInT151.rorAcc
  | .rorZp b1 => OpcodeInT151.rorZp b1
  | .rorZpx b1 => OpcodeInT151.rorZpx b1
  | .rorAbs a => OpcodeInT151.rorAbs a
  | .rorAbx a => OpcodeInT151.rorAbx a
  | .jmpAbs a => OpcodeInT151.jmpAbs a
  | .jmpInd a => OpcodeInT151.jmpInd a
  | .jsr a => OpcodeInT151.jsr a
  | .rts => OpcodeInT151.rts
  | .rti => OpcodeInT151.rti
  | .bcc b1 => OpcodeInT151.bcc b1
  | .bcs b1 => OpcodeInT151.bcs b1
  | .beq b1 => OpcodeInT151.beq b1
  | .bne b1 => OpcodeInT151.bne b1
  | .bmi b1 => OpcodeInT151.bmi b1
  | .bpl b1 => OpcodeInT151.bpl b1
  | .bvc b1 => OpcodeInT151.bvc b1
  | .bvs b1 => OpcodeInT151.bvs b1
  | .pha => OpcodeInT151.pha
  | .php => OpcodeInT151.php
  | .pla => OpcodeInT151.pla
  | .plp => OpcodeInT151.plp
  | .clc => OpcodeInT151.clc
  | .sec => OpcodeInT151.sec
  | .cli => OpcodeInT151.cli
  | .sei => OpcodeInT151.sei
  | .cld => OpcodeInT151.cld
  | .sed => OpcodeInT151.sed
  | .clv => OpcodeInT151.clv
  | .nop => OpcodeInT151.nop
  | .brk => OpcodeInT151.brk

end Sys2Proof.Laws
end

