-- ==== Sys2Proof/Laws/Decode.lean ====
section
/-!
SUPPORT. What the decoder does: `instrOf` and R90 agree, an entry's instruction has the entry's mnemonic and mode, and
decoding is decided by the lookup of the first byte.
-/

namespace Sys2Proof

/-- The mnemonics and modes that make an instruction are those R88 lists. -/
theorem instrOf_isSome (mn : Mnemonic) (m : Mode) (b1 b2 : Byte) :
    (instrOf mn m b1 b2).isSome = decide (m ∈ mn.modes) := by cases mn <;> cases m <;> rfl

/-- The instruction made of an entry's mnemonic and mode has them. -/
theorem parts_of_instrOf {mn : Mnemonic} {m : Mode} {b1 b2 : Byte} {i : Instr} (h : instrOf mn m b1 b2 = some i) :
    i.mnemonic = mn ∧ i.mode = m := by
  cases mn <;> cases m <;> first | (cases h; exact ⟨rfl, rfl⟩) | (exact absurd h (by simp [instrOf]))

/-- The operand bytes of the instruction made of `b1` and `b2` are those of the two its mode has. -/
theorem operand_of_instrOf {mn : Mnemonic} {m : Mode} {b1 b2 : Byte} {i : Instr} (h : instrOf mn m b1 b2 = some i) :
    i.operand.bytes = [b1, b2].take (m.len - 1) := by
  cases mn <;> cases m <;>
    first
    | (cases h; simp [Instr.operand, Instr.parts, OperandBytes.bytes, Mode.len, Machine.loByte_join, Machine.hiByte_join])
    | (exact absurd h (by simp [instrOf]))

/-- An instruction is made of its own mnemonic, mode and operand bytes. -/
theorem instrOf_parts (i : Instr) (b2 : Byte) :
    instrOf i.mnemonic i.mode (i.operand.bytes.getD 0 b2) (i.operand.bytes.getD 1 b2) = some i := by
  cases i <;> first | rfl | simp [Instr.mnemonic, Instr.mode, Instr.operand, Instr.parts, OperandBytes.bytes, instrOf,
    Machine.join_hiByte_loByte]

theorem length_operand_bytes (i : Instr) : i.operand.bytes.length + 1 = i.length := by cases i <;> rfl

/-- A well-formed entry makes an instruction. -/
theorem instr_of_wf {e : Entry} (h : e.wf) (b1 b2 : Byte) : ∃ i, e.instr b1 b2 = some i := by
  obtain ⟨op, mn, _ | m, len⟩ := e
  · cases h
  · simp only [Entry.wf, Bool.and_eq_true, decide_eq_true_eq] at h
    exact Option.isSome_iff_exists.1 (by simpa [Entry.instr] using (instrOf_isSome mn m b1 b2).trans (decide_eq_true h.2))

/-- Decoding says no more than the lookup does. -/
theorem decode3_cases (tbl : OpTable) (b0 b1 b2 : Byte) :
    (tbl.lookup b0 = none ∧ decode3 tbl b0 b1 b2 = .error .unknownOpcode) ∨
    (∃ e, tbl.lookup b0 = some e ∧ e.wf = false ∧ decode3 tbl b0 b1 b2 = .error .invalidOperand) ∨
    (∃ e i, tbl.lookup b0 = some e ∧ e.wf = true ∧ e.instr b1 b2 = some i ∧ decode3 tbl b0 b1 b2 = .ok i) := by
  unfold decode3
  cases hl : tbl.lookup b0 with
  | none => exact .inl ⟨rfl, rfl⟩
  | some e =>
    cases hw : e.wf with
    | false => exact .inr (.inl ⟨e, rfl, hw, by simp [hw]⟩)
    | true =>
      obtain ⟨i, hi⟩ := instr_of_wf hw b1 b2
      exact .inr (.inr ⟨e, i, rfl, hw, hi, by simp [hw, hi]⟩)

theorem lookup_mem {tbl : OpTable} {op : Byte} {e : Entry} (h : tbl.lookup op = some e) : e ∈ tbl ∧ e.opcode = op :=
  ⟨List.mem_of_find?_eq_some h, by simpa using List.find?_some h⟩

/-- In a table with one entry per opcode byte, an entry is found at its own byte. -/
theorem lookup_of_mem {tbl : OpTable} (hw : tbl.wf) {e : Entry} (h : e ∈ tbl) : tbl.lookup e.opcode = some e := by
  simp only [OpTable.wf, Bool.and_eq_true, decide_eq_true_eq] at hw
  unfold OpTable.lookup
  obtain ⟨e', he'⟩ := Option.isSome_iff_exists.1
    (List.find?_isSome (p := fun e' : Entry => e'.opcode == e.opcode).2 ⟨e, h, beq_self_eq_true _⟩)
  rw [he']
  have hop : e'.opcode = e.opcode := by simpa using List.find?_some he'
  exact congrArg some (List.inj_on_of_nodup_map hw.2 (List.mem_of_find?_eq_some he') h hop)

theorem T151_wf : T151.wf = true := by decide +kernel

theorem T151_admissible : T151.admissible = true := by
  have h : (decide ((⟨0x00, .BRK, some .imp, 1⟩ : Entry) ∈ T151) && decide ((⟨0xA9, .LDA, some .imm, 2⟩ : Entry) ∈ T151)
    && T151.all fun e => decide (e.opcode ≠ 0xFF)) = true := by decide +kernel
  simp only [Bool.and_eq_true] at h
  simp only [OpTable.admissible, T151_wf, Bool.and_eq_true, h, and_self]

theorem T2_admissible : T2.admissible = true := by decide

end Sys2Proof
end

