-- ==== Sys2Proof/Laws/Engine.lean ====
section
/-!
SUPPORT. Said once: what a handler can do (`Handles`), how an instruction ends (`exec_cases`), what a step can do
(`stepWith_cases`), and that the host's execute is iterated steps. Later proofs cite these instead of unfolding
`exec` or `stepWith`.
-/

namespace Sys2Proof.Machine

/-- `t` comes from `s` by writes to registers, flags and memory alone, memory staying canonical. -/
structure Handles (s t : State) : Prop where
  pc        : t.pc = s.pc
  engine    : t.engine = s.engine
  resetDone : t.resetDone = s.resetDone
  term      : t.term = s.term
  events    : t.events = s.events
  wf        : s.mem.wf → t.mem.wf

theorem Handles.rfl {s : State} : Handles s s := ⟨Eq.refl _, Eq.refl _, Eq.refl _, Eq.refl _, Eq.refl _, id⟩

theorem Handles.trans {s t u : State} (h : Handles s t) (h' : Handles t u) : Handles s u :=
  ⟨h'.pc.trans h.pc, h'.engine.trans h.engine, h'.resetDone.trans h.resetDone, h'.term.trans h.term,
    h'.events.trans h.events, fun hw => h'.wf (h.wf hw)⟩

variable (s : State)

theorem handles_setReg (r : Reg) (v : Byte) : Handles s (s.setReg r v) := by
  constructor <;> first | exact setReg_mem s r v ▸ id | simp

theorem handles_setFlags (q : Flags) : Handles s (s.setFlags q) := ⟨rfl, rfl, rfl, rfl, rfl, id⟩

theorem handles_poke (k : Addr) (v : Byte) : Handles s (s.poke k v) :=
  ⟨rfl, rfl, rfl, rfl, rfl, fun hw => wf_poke hw k v⟩

theorem handles_setRegZN (r : Reg) (v : Byte) : Handles s (s.setRegZN r v) :=
  (handles_setReg s r v).trans (handles_setFlags _ _)

theorem handles_push (v : Byte) : Handles s (s.push v) := (handles_poke s _ _).trans (handles_setReg _ _ _)

theorem handles_pull : Handles s s.pull := handles_setReg s _ _

theorem handles_put (pl : Place) (r : Byte) : Handles s (pl.put r s) := by
  cases pl
  · exact handles_setReg s .A r
  · exact handles_poke s _ r

theorem handles_load (r : Reg) (o : Source) : Handles s (load r o s) := handles_setRegZN s _ _
theorem handles_store (r : Reg) (f : AddrForm) : Handles s (store r f s) := handles_poke s _ _
theorem handles_moveReg (r q : Reg) : Handles s (moveReg r q s) := handles_setRegZN s _ _
theorem handles_txs : Handles s (txs s) := handles_setReg s _ _

theorem handles_addToA (m : Byte) : Handles s (addToA m s) := (handles_setReg s _ _).trans (handles_setFlags _ _)
theorem handles_adc (o : Source) : Handles s (adc o s) := handles_addToA s _
theorem handles_sbc (o : Source) : Handles s (sbc o s) := handles_addToA s _
theorem handles_logic (op : Byte → Byte → Byte) (o : Source) : Handles s (logic op o s) := handles_setRegZN s _ _
theorem handles_compare (r : Reg) (o : Source) : Handles s (compare r o s) := handles_setFlags s _
theorem handles_bitTest (o : Source) : Handles s (bitTest o s) := handles_setFlags s _
theorem handles_stepMem (op : Byte → Byte) (f : AddrForm) : Handles s (stepMem op f s) :=
  (handles_poke s _ _).trans (handles_setFlags _ _)
theorem handles_stepReg (op : Byte → Byte) (r : Reg) : Handles s (stepReg op r s) := handles_setRegZN s _ _

theorem handles_shift (op : Byte → Byte × Bool) (pl : Place) : Handles s (shift op pl s) :=
  (handles_put s pl _).trans (handles_setFlags _ _)

theorem handles_pla : Handles s (pla s) := (handles_pull s).trans (handles_setRegZN _ _ _)
theorem handles_plp : Handles s (plp s) := (handles_pull s).trans (handles_setFlags _ _)
theorem handles_pushWord (w : Addr) : Handles s (pushWord w s) := (handles_push s _).trans (handles_push _ _)
theorem handles_pullWord : Handles s (pullWord s) := (handles_pull s).trans (handles_pull _)
theorem handles_rti : Handles s (pullWord (plp s)) := (handles_plp s).trans (handles_pullWord _)

/-- How an instruction ends: BRK halts, every other instruction runs a handler and retires. -/
theorem exec_cases (i : Instr) : (i = .brk ∧ exec i s = .next (halt s)) ∨
    (i ≠ .brk ∧ ∃ npc t, Handles s t ∧ exec i s = .next (retire npc t)) := by
  cases i
  case brk => exact .inl ⟨rfl, rfl⟩
  all_goals
    refine .inr ⟨by simp, _, _, ?_, rfl⟩
    first
    | with_reducible exact handles_load s _ _
    | with_reducible exact handles_store s _ _
    | with_reducible exact handles_moveReg s _ _
    | with_reducible exact handles_txs s
    | with_reducible exact handles_adc s _
    | with_reducible exact handles_sbc s _
    | with_reducible exact handles_logic s _ _
    | with_reducible exact handles_compare s _ _
    | with_reducible exact handles_bitTest s _
    | with_reducible exact handles_stepMem s _ _
    | with_reducible exact handles_stepReg s _ _
    | with_reducible exact handles_shift s _ _
    | with_reducible exact handles_pushWord s _
    | with_reducible exact handles_pullWord s
    | with_reducible exact handles_rti s
    | with_reducible exact handles_push s _
    | with_reducible exact handles_pla s
    | with_reducible exact handles_plp s
    | with_reducible exact handles_setFlags s _
    | exact Handles.rfl

/-- What a step of a running engine can do: retire an instruction, halt, or fault. -/
theorem stepRunning_cases (tbl : OpTable) :
    (∃ k, stepRunning tbl s = .next (raiseFault k s)) ∨
    (fetchDecode tbl s = .ok .brk ∧ stepRunning tbl s = .next (halt s)) ∨
    ∃ npc t, Handles s t ∧ stepRunning tbl s = .next (retire npc t) := by
  unfold stepRunning
  cases h : fetchDecode tbl s with
  | error k => exact .inl ⟨k, rfl⟩
  | ok i =>
    rcases exec_cases s i with ⟨rfl, h'⟩ | ⟨-, h'⟩
    · exact .inr (.inl ⟨rfl, h'⟩)
    · exact .inr (.inr h')

/-- What a step can do, in every engine state. -/
theorem stepWith_cases (tbl : OpTable) :
    (s.engine = .reset ∧ s.resetDone = false ∧ stepWith tbl s = .refused .stepBeforeReset) ∨
    (s.engine = .reset ∧ s.resetDone = true ∧ stepWith tbl s = stepRunning tbl { s with engine := .running }) ∨
    (s.engine = .running ∧ stepWith tbl s = stepRunning tbl s) ∨
    (s.terminal = true ∧ stepWith tbl s = .next s) := by
  unfold stepWith State.terminal
  cases he : s.engine <;> simp
  cases s.resetDone <;> simp

end Sys2Proof.Machine
end

