-- ==== Sys2Proof/Laws/Launch.lean ====
section
/-!
SUPPORT. What a launch (70_reset_and_hazards.md R287) leaves, said once; every launched machine is one that host calls
reach.
-/

namespace Sys2Proof.Machine

@[simp] theorem andThen_next (s : State) (call : State → StepOutcome) : andThen (.next s) call = call s := rfl

/-- A load that has a next state is the copy loop on memory. -/
theorem loadProgram_next {wrap : Bool} {bytes : List Nat} {start : Addr} {s t : State}
    (h : loadProgram wrap bytes start s = .next t) : t = { s with mem := s.mem.copyBlock bytes start.toNat } := by
  unfold loadProgram Memory.loadBlock at h
  split at h
  · rename_i m hm
    split at hm
    · cases hm
    · cases hm; cases h; rfl
  · cases h

/-- With wrapping allowed a load has a next state. -/
@[simp] theorem loadProgram_wrap (bytes : List Nat) (start : Addr) (s : State) :
    loadProgram true bytes start s = .next { s with mem := s.mem.copyBlock bytes start.toNat } := rfl

/-- A launch that has a next state went through its three calls. -/
theorem launch_calls {wrap : Bool} {program : List Nat} {entry : Addr} {memInit : Memory} {s : State}
    (h : launch wrap program entry memInit = .next s) :
    ∃ t u, loadProgram wrap program entry (State.constructed memInit) = .next t ∧
      loadProgram wrap (vectorBytes entry) Config.resetVector t = .next u ∧ s = engineReset u := by
  unfold launch at h
  cases h1 : loadProgram wrap program entry (State.constructed memInit) with
  | next t =>
    rw [h1, andThen_next] at h
    cases h2 : loadProgram wrap (vectorBytes entry) Config.resetVector t with
    | next u => rw [h2] at h; cases h; exact ⟨t, u, rfl, h2, rfl⟩
    | fault f => rw [h2] at h; cases h
    | refused r => rw [h2] at h; cases h
  | fault f => rw [h1] at h; cases h
  | refused r => rw [h1] at h; cases h

/-- After its two bytes are loaded, the vector reads as the entry address. -/
theorem readWord_vectorBytes {m : Memory} (hw : m.wf) (entry : Addr) :
    (m.copyBlock (vectorBytes entry) Config.resetVector.toNat).readWord Config.resetVector.toNat = entry := by
  have hlo : (m.copyBlock (vectorBytes entry) 0xFFFC).readByte 0xFFFC = loByte entry := by
    simp only [vectorBytes, Memory.copyBlock]
    rw [readByte_writeByte_key (wf_writeByte hw _ _), if_neg (by decide), readByte_writeByte_key hw, if_pos rfl,
      BitVec.ofNat_toNat, BitVec.setWidth_eq]
  have hhi : (m.copyBlock (vectorBytes entry) 0xFFFC).readByte (0xFFFC + 1) = hiByte entry := by
    simp only [vectorBytes, Memory.copyBlock]
    rw [readByte_writeByte_key (wf_writeByte hw _ _), if_pos rfl, BitVec.ofNat_toNat, BitVec.setWidth_eq]
  show join _ _ = entry
  exact (congrArg₂ join hhi hlo).trans (join_hiByte_loByte entry)

/-- A launched machine is a reset one with `pc` at the entry address, whose memory holds the program and, over it, the
vector. -/
theorem launched_cases {wrap : Bool} {program : List Nat} {entry : Addr} {s : State} (h : Launched wrap program entry s) :
    ∃ memInit : Memory, memInit.wf ∧
      s = { State.reset with
        pc := entry
        mem := (memInit.copyBlock program entry.toNat).copyBlock (vectorBytes entry) Config.resetVector.toNat } := by
  obtain ⟨memInit, hw, h⟩ := h
  obtain ⟨t, u, h1, h2, rfl⟩ := launch_calls h
  obtain rfl := loadProgram_next h1
  obtain rfl := loadProgram_next h2
  exact ⟨memInit, hw, congrArg (fun pc => State.mk pc _ _ _ _ _ _ _ _ _ _)
    (readWord_vectorBytes (wf_copyBlock hw program entry.toNat) entry)⟩

/-- Host calls reach a launched machine, whatever table it will execute with. -/
theorem launched_reachable {wrap : Bool} {program : List Nat} {entry : Addr} {s : State} (tbl : OpTable)
    (h : Launched wrap program entry s) : ∃ memInit : Memory, memInit.wf ∧ Reachable tbl memInit s := by
  obtain ⟨memInit, hw, h⟩ := h
  obtain ⟨t, u, h1, h2, rfl⟩ := launch_calls h
  have step1 := Reachable.call (tbl := tbl) _ (.loadProgram wrap program entry) (.constructed (memInit := memInit))
  simp only [hostCall, h1] at step1
  have step2 := step1.call _ (.loadProgram wrap (vectorBytes entry) Config.resetVector)
  simp only [hostCall, h2] at step2
  exact ⟨memInit, hw, step2.call _ .reset⟩

end Sys2Proof.Machine
end

