-- ==== Sys2Proof/Tests/Slice0.lean ====
section
/-!
SUPPORT. Tests. Expected results come from the spec: encodings from 30_encoding.md R88, one-step results from the vectors of
95_test_vectors.md (named by their ids), the rest worked out by hand from the rules cited. After them, for each
statement of Certificates/Slice0/Obligations.lean that has hypotheses, a witness that meets them.
-/

namespace Sys2Proof.Tests

open Machine Stated

/-! ### Well-formedness: what each check refuses (30_encoding.md R90, 00_scope.md R7) -/

theorem test_wf_unknown_tag : Entry.wf ⟨0xA9, .LDA, none, 2⟩ = false := by decide

theorem test_wf_wrong_length : Entry.wf ⟨0xA9, .LDA, some .imm, 3⟩ = false := by decide

theorem test_wf_mode_not_admitted : Entry.wf ⟨0x9A, .STA, some .imm, 2⟩ = false := by decide

theorem test_wf_good_entry : Entry.wf ⟨0xA9, .LDA, some .imm, 2⟩ = true := by decide

theorem test_wf_byte_twice :
    OpTable.wf [⟨0xA9, .LDA, some .imm, 2⟩, ⟨0xA9, .LDX, some .imm, 2⟩] = false := by decide

theorem test_admissible_needs_brk : OpTable.admissible [⟨0xA9, .LDA, some .imm, 2⟩] = false := by decide

theorem test_admissible_needs_lda : OpTable.admissible [⟨0x00, .BRK, some .imp, 1⟩] = false := by decide

theorem test_admissible_without_ff : OpTable.admissible (⟨0xFF, .NOP, some .imp, 1⟩ :: T2) = false := by decide

theorem test_wf_instr_not_in_table : Instr.wf T2 .tax = false ∧ Instr.wf T2 (.ldaImm 0x01) = true := by decide

/-! ### Decoding: the word of every constructor (R88), operand bytes 34 and 12 -/

theorem test_decode_loads :
    [0x1234A9, 0x1234A5, 0x1234B5, 0x1234A1, 0x1234B1, 0x1234AD, 0x1234BD, 0x1234B9, 0x1234A2, 0x1234A6,
     0x1234B6, 0x1234AE, 0x1234BE, 0x1234A0, 0x1234A4, 0x1234B4, 0x1234AC, 0x1234BC].map (decodeTableWord 24) =
      [some (.ldaImm 0x34), some (.ldaZp 0x34), some (.ldaZpx 0x34), some (.ldaIzx 0x34), some (.ldaIzy 0x34),
       some (.ldaAbs 0x1234), some (.ldaAbx 0x1234), some (.ldaAby 0x1234), some (.ldxImm 0x34),
       some (.ldxZp 0x34), some (.ldxZpy 0x34), some (.ldxAbs 0x1234), some (.ldxAby 0x1234),
       some (.ldyImm 0x34), some (.ldyZp 0x34), some (.ldyZpx 0x34), some (.ldyAbs 0x1234),
       some (.ldyAbx 0x1234)] := by
  decide

theorem test_decode_stores_and_transfers :
    [0x123485, 0x123495, 0x123481, 0x123491, 0x12348D, 0x12349D, 0x123499, 0x123486, 0x123496, 0x12348E,
     0x123484, 0x123494, 0x12348C, 0x1234AA, 0x1234A8, 0x12348A, 0x123498, 0x1234BA, 0x12349A].map (decodeTableWord 24) =
      [some (.staZp 0x34), some (.staZpx 0x34), some (.staIzx 0x34), some (.staIzy 0x34),
       some (.staAbs 0x1234), some (.staAbx 0x1234), some (.staAby 0x1234), some (.stxZp 0x34),
       some (.stxZpy 0x34), some (.stxAbs 0x1234), some (.styZp 0x34), some (.styZpx 0x34),
       some (.styAbs 0x1234), some .tax, some .tay, some .txa, some .tya, some .tsx, some .txs] := by
  decide

theorem test_decode_add_and_subtract :
    [0x123469, 0x123465, 0x123475, 0x123461, 0x123471, 0x12346D, 0x12347D, 0x123479, 0x1234E9, 0x1234E5,
     0x1234F5, 0x1234E1, 0x1234F1, 0x1234ED, 0x1234FD, 0x1234F9].map (decodeTableWord 24) =
      [some (.adcImm 0x34), some (.adcZp 0x34), some (.adcZpx 0x34), some (.adcIzx 0x34), some (.adcIzy 0x34),
       some (.adcAbs 0x1234), some (.adcAbx 0x1234), some (.adcAby 0x1234), some (.sbcImm 0x34),
       some (.sbcZp 0x34), some (.sbcZpx 0x34), some (.sbcIzx 0x34), some (.sbcIzy 0x34),
       some (.sbcAbs 0x1234), some (.sbcAbx 0x1234), some (.sbcAby 0x1234)] := by
  decide

theorem test_decode_logic :
    [0x123429, 0x123425, 0x123435, 0x123421, 0x123431, 0x12342D, 0x12343D, 0x123439, 0x123409, 0x123405,
     0x123415, 0x123401, 0x123411, 0x12340D, 0x12341D, 0x123419, 0x123449, 0x123445, 0x123455, 0x123441,
     0x123451, 0x12344D, 0x12345D, 0x123459].map (decodeTableWord 24) =
      [some (.andImm 0x34), some (.andZp 0x34), some (.andZpx 0x34), some (.andIzx 0x34), some (.andIzy 0x34),
       some (.andAbs 0x1234), some (.andAbx 0x1234), some (.andAby 0x1234), some (.oraImm 0x34),
       some (.oraZp 0x34), some (.oraZpx 0x34), some (.oraIzx 0x34), some (.oraIzy 0x34),
       some (.oraAbs 0x1234), some (.oraAbx 0x1234), some (.oraAby 0x1234), some (.eorImm 0x34),
       some (.eorZp 0x34), some (.eorZpx 0x34), some (.eorIzx 0x34), some (.eorIzy 0x34),
       some (.eorAbs 0x1234), some (.eorAbx 0x1234), some (.eorAby 0x1234)] := by
  decide

theorem test_decode_compares_and_bit :
    [0x1234C9, 0x1234C5, 0x1234D5, 0x1234C1, 0x1234D1, 0x1234CD, 0x1234DD, 0x1234D9, 0x1234E0, 0x1234E4,
     0x1234EC, 0x1234C0, 0x1234C4, 0x1234CC, 0x123424, 0x12342C].map (decodeTableWord 24) =
      [some (.cmpImm 0x34), some (.cmpZp 0x34), some (.cmpZpx 0x34), some (.cmpIzx 0x34), some (.cmpIzy 0x34),
       some (.cmpAbs 0x1234), some (.cmpAbx 0x1234), some (.cmpAby 0x1234), some (.cpxImm 0x34),
       some (.cpxZp 0x34), some (.cpxAbs 0x1234), some (.cpyImm 0x34), some (.cpyZp 0x34),
       some (.cpyAbs 0x1234), some (.bitZp 0x34), some (.bitAbs 0x1234)] := by
  decide

theorem test_decode_increments :
    [0x1234E6, 0x1234F6, 0x1234EE, 0x1234FE, 0x1234C6, 0x1234D6, 0x1234CE, 0x1234DE, 0x1234E8, 0x1234C8,
     0x1234CA, 0x123488].map (decodeTableWord 24) =
      [some (.incZp 0x34), some (.incZpx 0x34), some (.incAbs 0x1234), some (.incAbx 0x1234),
       some (.decZp 0x34), some (.decZpx 0x34), some (.decAbs 0x1234), some (.decAbx 0x1234), some .inx,
       some .iny, some .dex, some .dey] := by
  decide

theorem test_decode_shifts :
    [0x12340A, 0x123406, 0x123416, 0x12340E, 0x12341E, 0x12344A, 0x123446, 0x123456, 0x12344E, 0x12345E,
     0x12342A, 0x123426, 0x123436, 0x12342E, 0x12343E, 0x12346A, 0x123466, 0x123476, 0x12346E, 0x12347E].map (decodeTableWord 24) =
      [some .aslAcc, some (.aslZp 0x34), some (.aslZpx 0x34), some (.aslAbs 0x1234), some (.aslAbx 0x1234),
       some .lsrAcc, some (.lsrZp 0x34), some (.lsrZpx 0x34), some (.lsrAbs 0x1234), some (.lsrAbx 0x1234),
       some .rolAcc, some (.rolZp 0x34), some (.rolZpx 0x34), some (.rolAbs 0x1234), some (.rolAbx 0x1234),
       some .rorAcc, some (.rorZp 0x34), some (.rorZpx 0x34), some (.rorAbs 0x1234), some (.rorAbx 0x1234)] := by
  decide

theorem test_decode_control :
    [0x12344C, 0x12346C, 0x123420, 0x123460, 0x123440, 0x123490, 0x1234B0, 0x1234F0, 0x1234D0, 0x123430,
     0x123410, 0x123450, 0x123470].map (decodeTableWord 24) =
      [some (.jmpAbs 0x1234), some (.jmpInd 0x1234), some (.jsr 0x1234), some .rts, some .rti,
       some (.bcc 0x34), some (.bcs 0x34), some (.beq 0x34), some (.bne 0x34), some (.bmi 0x34),
       some (.bpl 0x34), some (.bvc 0x34), some (.bvs 0x34)] := by
  decide

theorem test_decode_stack_flags_system :
    [0x123448, 0x123408, 0x123468, 0x123428, 0x123418, 0x123438, 0x123458, 0x123478, 0x1234D8, 0x1234F8,
     0x1234B8, 0x1234EA, 0x123400].map (decodeTableWord 24) =
      [some .pha, some .php, some .pla, some .plp, some .clc, some .sec, some .cli, some .sei, some .cld,
       some .sed, some .clv, some .nop, some .brk] := by
  decide

/-- Unknown bytes (R94), one of them the undocumented second SBC. -/
theorem test_decode_unknown : [0xFF, 0x02, 0xEB, 0x80].map (decodeTableWord 8) = [none, none, none, none] := by
  decide

/-- Without operand bytes in the word, they are zeros. -/
theorem test_decode_short_word : [0xAD, 0x34AD].map (decodeTableWord 8) = [some (.ldaAbs 0), some (.ldaAbs 0)] := by
  decide

/-- An ill-formed entry is rejected under its own name (R246). -/
theorem test_decode_ill_formed : decode3 [⟨0x9A, .STA, some .imm, 2⟩] 0x9A 0 0 = .error .invalidOperand := rfl

/-- A byte sequence that ends too early is no instruction. -/
theorem test_decode_truncated : decode T151 [0xAD, 0x34] = .error .truncated := rfl

/-- Encoding puts the low byte first (R84). -/
theorem test_encode_low_byte_first : encode (.jmpInd 0x1234) = [0x6C, 0x34, 0x12] := by decide

/-! ### The vectors of 95_test_vectors.md -/

/-- The start state of a vector of 95_test_vectors.md: the state after `reset()` with the vector at 0801, made `Running`,
memory holding the given pieces. -/
def st (pieces : List (Addr × List Nat)) : State :=
  { State.reset with
    pc := 0x0801, engine := .running
    mem := pieces.foldl (fun m q => m.copyBlock q.2 q.1.toNat) [] }

/-- The end of a vector: `step` retires one instruction into these registers, `pc` and flags, writes exactly these
bytes, and emits one Snapshot of the result. -/
def endsIn (s : State) (pc : Addr) (sp a x y : Byte) (p : Flags) (written : List (Addr × Nat)) : Bool :=
  match step s with
  | .next t =>
    decide (t = { s with
      pc := pc, sp := sp, a := a, x := x, y := y, p := p
      mem := written.foldl (fun m w => m.writeByte w.1.toNat w.2) s.mem
      events := [.snapshot t.snapshot] })
  | .fault _ => false
  | .refused _ => false

/-- The end of a vector that halts or faults: nothing changes but the engine, and the signal is stored and emitted. -/
def stopsWith (s : State) (sig : Signal) : Bool :=
  match step s with
  | .next t => decide (t = { s with engine := sig.engineState, term := some sig, events := [sig.event] })
  | .fault _ => false
  | .refused _ => false

/-- `LDA #$7F` (R151): S1: Z, N rewritten (both to 0), the other five flags kept. -/
theorem test_LS4_lda :
    endsIn { st [(0x0801, [0xA9, 0x7F])] with p := ⟨true, true, true, true, true, true, true⟩ } 0x0803 0xFF 0x7F
      0x00 0x00 ⟨true, false, true, true, true, true, false⟩ [] = true := by
  decide

/-- `LDA $F0,X` (R151): zpx wraps in page 0: ea=0010, not 0110. -/
theorem test_LS6_lda :
    endsIn { st [(0x0801, [0xB5, 0xF0]), (0x0010, [0x77]), (0x0110, [0x99])] with x := 0x20 } 0x0803 0xFF 0x77
      0x20 0x00 ⟨false, false, false, false, false, false, false⟩ [] = true := by
  decide

/-- `LDX $F0,Y` (R152): zpy: ea=0000. -/
theorem test_LS13_ldx :
    endsIn { st [(0x0801, [0xB6, 0xF0]), (0x0000, [0x05])] with y := 0x10 } 0x0803 0xFF 0x00 0x05 0x10 ⟨false,
      false, false, false, false, false, false⟩ [] = true := by
  decide

/-- `LDX $2000,Y` (R152): aby: ea=2001. -/
theorem test_LS14_ldx :
    endsIn { st [(0x0801, [0xBE, 0x00, 0x20]), (0x2001, [0x00])] with x := 0x33, y := 0x01 } 0x0804 0xFF 0x00
      0x00 0x01 ⟨false, true, false, false, false, false, false⟩ [] = true := by
  decide

/-- `LDY #$00` (R153). -/
theorem test_LS15_ldy :
    endsIn { st [(0x0801, [0xA0, 0x00])] with y := 0x11 } 0x0803 0xFF 0x00 0x00 0x00 ⟨false, true, false, false,
      false, false, false⟩ [] = true := by
  decide

/-- `LDY $2000,X` (R153): abx: ea=20FF. -/
theorem test_LS16_ldy :
    endsIn { st [(0x0801, [0xBC, 0x00, 0x20]), (0x20FF, [0x80])] with x := 0xFF } 0x0804 0xFF 0x00 0xFF 0x80
      ⟨false, false, false, false, false, false, true⟩ [] = true := by
  decide

/-- `STA $2000` (R154): flags untouched. -/
theorem test_LS17_sta :
    endsIn { st [(0x0801, [0x8D, 0x00, 0x20]), (0x2000, [0x00])] with a := 0x5A, p := ⟨false, true, false,
      false, false, false, false⟩ } 0x0804 0xFF 0x5A 0x00 0x00 ⟨false, true, false, false, false, false, false⟩
      [(0x2000, 0x5A)] = true := by
  decide

/-- `STA ($20),Y` (R154): izy: base=FFFF, +04 wraps: ea=0003. -/
theorem test_LS23_sta :
    endsIn { st [(0x0801, [0x91, 0x20]), (0x0020, [0xFF]), (0x0021, [0xFF])] with a := 0xA5, y := 0x04 } 0x0803
      0xFF 0xA5 0x00 0x04 ⟨false, false, false, false, false, false, false⟩ [(0x0003, 0xA5)] = true := by
  decide

/-- `STX $FF,Y` (R155): zpy wraps: ea=0001. -/
theorem test_LS24_stx :
    endsIn { st [(0x0801, [0x96, 0xFF])] with x := 0x07, y := 0x02 } 0x0803 0xFF 0x00 0x07 0x02 ⟨false, false,
      false, false, false, false, false⟩ [(0x0001, 0x07)] = true := by
  decide

/-- `STX $2000` (R155). -/
theorem test_LS25_stx :
    endsIn { st [(0x0801, [0x8E, 0x00, 0x20])] with x := 0x07 } 0x0804 0xFF 0x00 0x07 0x00 ⟨false, false, false,
      false, false, false, false⟩ [(0x2000, 0x07)] = true := by
  decide

/-- `STY $10` (R156). -/
theorem test_LS26_sty :
    endsIn { st [(0x0801, [0x84, 0x10])] with y := 0x33 } 0x0803 0xFF 0x00 0x00 0x33 ⟨false, false, false,
      false, false, false, false⟩ [(0x0010, 0x33)] = true := by
  decide

/-- `STY $10,X` (R156). -/
theorem test_LS27_sty :
    endsIn { st [(0x0801, [0x94, 0x10])] with x := 0x02, y := 0x33 } 0x0803 0xFF 0x00 0x02 0x33 ⟨false, false,
      false, false, false, false, false⟩ [(0x0012, 0x33)] = true := by
  decide

/-- `TAX` (R157). -/
theorem test_LS28_tax :
    endsIn { st [(0x0801, [0xAA])] with x := 0x55 } 0x0802 0xFF 0x00 0x00 0x00 ⟨false, true, false, false,
      false, false, false⟩ [] = true := by
  decide

/-- `TAY` (R158). -/
theorem test_LS29_tay :
    endsIn { st [(0x0801, [0xA8])] with a := 0x90 } 0x0802 0xFF 0x90 0x00 0x90 ⟨false, false, false, false,
      false, false, true⟩ [] = true := by
  decide

/-- `TXA` (R159): clears a previously set N. -/
theorem test_LS30_txa :
    endsIn { st [(0x0801, [0x8A])] with a := 0x80, x := 0x7F, p := ⟨false, false, false, false, false, false,
      true⟩ } 0x0802 0xFF 0x7F 0x7F 0x00 ⟨false, false, false, false, false, false, false⟩ [] = true := by
  decide

/-- `TYA` (R160). -/
theorem test_LS31_tya :
    endsIn { st [(0x0801, [0x98])] with a := 0x12 } 0x0802 0xFF 0x00 0x00 0x00 ⟨false, true, false, false,
      false, false, false⟩ [] = true := by
  decide

/-- `TSX` (R161): SP=FF as after reset. -/
theorem test_LS32_tsx :
    endsIn (st [(0x0801, [0xBA])]) 0x0802 0xFF 0x00 0xFF 0x00 ⟨false, false, false, false, false, false, true⟩
      [] = true := by
  decide

/-- `TXS` (R162): no N although bit 7 set. -/
theorem test_LS34_txs :
    endsIn { st [(0x0801, [0x9A])] with x := 0x80 } 0x0802 0x80 0x00 0x80 0x00 ⟨false, false, false, false,
      false, false, false⟩ [] = true := by
  decide

/-- `ADC #$00` (R171): overflow caused by the carry-in alone. -/
theorem test_AL5_adc :
    endsIn { st [(0x0801, [0x69, 0x00])] with a := 0x7F, p := ⟨true, false, false, false, false, false, false⟩ }
      0x0803 0xFF 0x80 0x00 0x00 ⟨false, false, false, false, false, true, true⟩ [] = true := by
  decide

/-- `ADC #$09` (R171): P.D=1 is ignored: binary 09+09=12, not BCD 18. -/
theorem test_AL8_adc :
    endsIn { st [(0x0801, [0x69, 0x09])] with a := 0x09, p := ⟨false, false, false, true, false, false, false⟩ }
      0x0803 0xFF 0x12 0x00 0x00 ⟨false, false, false, true, false, false, false⟩ [] = true := by
  decide

/-- `SBC #$F0` (R172): 50-F0: borrow (C=0), no signed overflow (80-(-16)=96). -/
theorem test_AL11_sbc :
    endsIn { st [(0x0801, [0xE9, 0xF0])] with a := 0x50, p := ⟨true, false, false, false, false, false, false⟩ }
      0x0803 0xFF 0x60 0x00 0x00 ⟨false, false, false, false, false, false, false⟩ [] = true := by
  decide

/-- `SBC #$01` (R172): P.D=1 ignored: binary 10-01=0F, not BCD 09. -/
theorem test_AL17_sbc :
    endsIn { st [(0x0801, [0xE9, 0x01])] with a := 0x10, p := ⟨true, false, false, true, false, false, false⟩ }
      0x0803 0xFF 0x0F 0x00 0x00 ⟨true, false, false, true, false, false, false⟩ [] = true := by
  decide

/-- `AND #$80` (R173): C and V kept. -/
theorem test_AL20_and :
    endsIn { st [(0x0801, [0x29, 0x80])] with a := 0xFF, p := ⟨true, false, false, false, false, true, false⟩ }
      0x0803 0xFF 0x80 0x00 0x00 ⟨true, false, false, false, false, true, true⟩ [] = true := by
  decide

/-- `SBC $2000,X` (R172): abx. -/
theorem test_AL18_sbc :
    endsIn { st [(0x0801, [0xFD, 0x00, 0x20]), (0x2001, [0x03])] with a := 0x05, x := 0x01, p := ⟨true, false,
      false, false, false, false, false⟩ } 0x0804 0xFF 0x02 0x01 0x00 ⟨true, false, false, false, false, false,
      false⟩ [] = true := by
  decide

/-- `ORA #$80` (R174). -/
theorem test_AL21_ora :
    endsIn { st [(0x0801, [0x09, 0x80])] with a := 0x01 } 0x0803 0xFF 0x81 0x00 0x00 ⟨false, false, false,
      false, false, false, true⟩ [] = true := by
  decide

/-- `EOR #$FF` (R175): complement. -/
theorem test_AL23_eor :
    endsIn { st [(0x0801, [0x49, 0xFF])] with a := 0xAA } 0x0803 0xFF 0x55 0x00 0x00 ⟨false, false, false,
      false, false, false, false⟩ [] = true := by
  decide

/-- `CMP #$41` (R176): A<m: C=0, diff FF. -/
theorem test_AL25_cmp :
    endsIn { st [(0x0801, [0xC9, 0x41])] with a := 0x40 } 0x0803 0xFF 0x40 0x00 0x00 ⟨false, false, false,
      false, false, false, true⟩ [] = true := by
  decide

/-- `CMP #$01` (R176): 80-01=7F: C=1, N=0, V (set on entry) untouched. -/
theorem test_AL29_cmp :
    endsIn { st [(0x0801, [0xC9, 0x01])] with a := 0x80, p := ⟨false, false, false, false, false, true, false⟩ }
      0x0803 0xFF 0x80 0x00 0x00 ⟨true, false, false, false, false, true, false⟩ [] = true := by
  decide

/-- `CPX #$05` (R177). -/
theorem test_AL31_cpx :
    endsIn { st [(0x0801, [0xE0, 0x05])] with x := 0x05 } 0x0803 0xFF 0x00 0x05 0x00 ⟨true, true, false, false,
      false, false, false⟩ [] = true := by
  decide

/-- `CPX $10` (R177): X<m. -/
theorem test_AL32_cpx :
    endsIn { st [(0x0801, [0xE4, 0x10]), (0x0010, [0x06])] with x := 0x05 } 0x0803 0xFF 0x00 0x05 0x00 ⟨false,
      false, false, false, false, false, true⟩ [] = true := by
  decide

/-- `CPY #$01` (R178). -/
theorem test_AL33_cpy :
    endsIn { st [(0x0801, [0xC0, 0x01])] with y := 0x10 } 0x0803 0xFF 0x00 0x00 0x10 ⟨true, false, false, false,
      false, false, false⟩ [] = true := by
  decide

/-- `CPY $2000` (R178): FF-01=FE. -/
theorem test_AL34_cpy :
    endsIn { st [(0x0801, [0xCC, 0x00, 0x20]), (0x2000, [0x01])] with y := 0xFF } 0x0804 0xFF 0x00 0x00 0xFF
      ⟨true, false, false, false, false, false, true⟩ [] = true := by
  decide

/-- `BIT $10` (R179): N,V from operand; Z from A&m. -/
theorem test_AL35_bit :
    endsIn { st [(0x0801, [0x24, 0x10]), (0x0010, [0xC0])] with a := 0x01 } 0x0803 0xFF 0x01 0x00 0x00 ⟨false,
      true, false, false, false, true, true⟩ [] = true := by
  decide

/-- `BIT $2000` (R179): A=00: Z=1; N,V cleared by operand 3F; C kept. -/
theorem test_AL37_bit :
    endsIn { st [(0x0801, [0x2C, 0x00, 0x20]), (0x2000, [0x3F])] with p := ⟨true, false, false, false, false,
      true, true⟩ } 0x0804 0xFF 0x00 0x00 0x00 ⟨true, true, false, false, false, false, false⟩ [] = true := by
  decide

/-- `INC $10` (R180): wrap; C not set. -/
theorem test_AL38_inc :
    endsIn (st [(0x0801, [0xE6, 0x10]), (0x0010, [0xFF])]) 0x0803 0xFF 0x00 0x00 0x00 ⟨false, true, false,
      false, false, false, false⟩ [(0x0010, 0x00)] = true := by
  decide

/-- `INC $20FF,X` (R180): abx. -/
theorem test_AL40_inc :
    endsIn { st [(0x0801, [0xFE, 0xFF, 0x20]), (0x2100, [0x00])] with x := 0x01 } 0x0804 0xFF 0x00 0x01 0x00
      ⟨false, false, false, false, false, false, false⟩ [(0x2100, 0x01)] = true := by
  decide

/-- `DEC $2000` (R181). -/
theorem test_AL41_dec :
    endsIn (st [(0x0801, [0xCE, 0x00, 0x20]), (0x2000, [0x00])]) 0x0804 0xFF 0x00 0x00 0x00 ⟨false, false,
      false, false, false, false, true⟩ [(0x2000, 0xFF)] = true := by
  decide

/-- `DEC $10` (R181): C kept. -/
theorem test_AL42_dec :
    endsIn { st [(0x0801, [0xC6, 0x10]), (0x0010, [0x01])] with p := ⟨true, false, false, false, false, false,
      false⟩ } 0x0803 0xFF 0x00 0x00 0x00 ⟨true, true, false, false, false, false, false⟩ [(0x0010, 0x00)] =
      true := by
  decide

/-- `INX` (R182). -/
theorem test_AL43_inx :
    endsIn { st [(0x0801, [0xE8])] with x := 0xFF } 0x0802 0xFF 0x00 0x00 0x00 ⟨false, true, false, false,
      false, false, false⟩ [] = true := by
  decide

/-- `INY` (R183). -/
theorem test_AL44_iny :
    endsIn { st [(0x0801, [0xC8])] with y := 0x7F } 0x0802 0xFF 0x00 0x00 0x80 ⟨false, false, false, false,
      false, false, true⟩ [] = true := by
  decide

/-- `DEX` (R184). -/
theorem test_AL46_dex :
    endsIn (st [(0x0801, [0xCA])]) 0x0802 0xFF 0x00 0xFF 0x00 ⟨false, false, false, false, false, false, true⟩
      [] = true := by
  decide

/-- `DEY` (R185). -/
theorem test_AL47_dey :
    endsIn (st [(0x0801, [0x88])]) 0x0802 0xFF 0x00 0x00 0xFF ⟨false, false, false, false, false, false, true⟩
      [] = true := by
  decide

/-- `ASL A` (R191). -/
theorem test_SH4_asl :
    endsIn { st [(0x0801, [0x0A])] with a := 0xFF } 0x0802 0xFF 0xFE 0x00 0x00 ⟨true, false, false, false,
      false, false, true⟩ [] = true := by
  decide

/-- `ASL $10` (R191): memory form leaves A alone. -/
theorem test_SH6_asl :
    endsIn { st [(0x0801, [0x06, 0x10]), (0x0010, [0xAA])] with a := 0x99 } 0x0803 0xFF 0x99 0x00 0x00 ⟨true,
      false, false, false, false, false, false⟩ [(0x0010, 0x54)] = true := by
  decide

/-- `LSR $10` (R192): N cleared. -/
theorem test_SH7_lsr :
    endsIn { st [(0x0801, [0x46, 0x10]), (0x0010, [0x03])] with p := ⟨false, false, false, false, false, false,
      true⟩ } 0x0803 0xFF 0x00 0x00 0x00 ⟨true, false, false, false, false, false, false⟩ [(0x0010, 0x01)] =
      true := by
  decide

/-- `LSR A` (R192): carry on entry is not shifted in. -/
theorem test_SH10_lsr :
    endsIn { st [(0x0801, [0x4A])] with a := 0x80, p := ⟨true, false, false, false, false, false, false⟩ }
      0x0802 0xFF 0x40 0x00 0x00 ⟨false, false, false, false, false, false, false⟩ [] = true := by
  decide

/-- `ROL A` (R193). -/
theorem test_SH14_rol :
    endsIn { st [(0x0801, [0x2A])] with a := 0x80, p := ⟨true, false, false, false, false, false, false⟩ }
      0x0802 0xFF 0x01 0x00 0x00 ⟨true, false, false, false, false, false, false⟩ [] = true := by
  decide

/-- `ROL $10,X` (R193): zpx. -/
theorem test_SH16_rol :
    endsIn { st [(0x0801, [0x36, 0x10]), (0x0011, [0xFF])] with x := 0x01, p := ⟨true, false, false, false,
      false, false, false⟩ } 0x0803 0xFF 0x00 0x01 0x00 ⟨true, false, false, false, false, false, true⟩
      [(0x0011, 0xFF)] = true := by
  decide

/-- `ROR A` (R194). -/
theorem test_SH17_ror :
    endsIn { st [(0x0801, [0x6A])] with a := 0x02, p := ⟨true, false, false, false, false, false, false⟩ }
      0x0802 0xFF 0x81 0x00 0x00 ⟨false, false, false, false, false, false, true⟩ [] = true := by
  decide

/-- `ROR $2000` (R194): abs. -/
theorem test_SH21_ror :
    endsIn (st [(0x0801, [0x6E, 0x00, 0x20]), (0x2000, [0xFF])]) 0x0804 0xFF 0x00 0x00 0x00 ⟨true, false, false,
      false, false, false, false⟩ [(0x2000, 0x7F)] = true := by
  decide

/-- `JMP ($12FF)` (R201): high byte from 1300, not 1200 (no same-page wrap). -/
theorem test_CF3_jmp :
    endsIn (st [(0x0801, [0x6C, 0xFF, 0x12]), (0x12FF, [0x34]), (0x1300, [0x12]), (0x1200, [0x99])]) 0x1234 0xFF
      0x00 0x00 0x00 ⟨false, false, false, false, false, false, false⟩ [] = true := by
  decide

/-- `JMP ($FFFF)` (R201): high byte from 0000 (wrap law, S2). -/
theorem test_CF4_jmp :
    endsIn (st [(0x0801, [0x6C, 0xFF, 0xFF]), (0xFFFF, [0x34]), (0x0000, [0x12])]) 0x1234 0xFF 0x00 0x00 0x00
      ⟨false, false, false, false, false, false, false⟩ [] = true := by
  decide

/-- `JSR $C000` (R202): SP wraps between the two pushes. -/
theorem test_CF7_jsr :
    endsIn { st [(0x0801, [0x20, 0x00, 0xC0])] with sp := 0x00 } 0xC000 0xFE 0x00 0x00 0x00 ⟨false, false,
      false, false, false, false, false⟩ [(0x0100, 0x08), (0x01FF, 0x03)] = true := by
  decide

/-- `RTS` (R203): pulled FFFF, +1 wraps; SP=FF wraps to 00, 01. -/
theorem test_CF10_rts :
    endsIn (st [(0x0801, [0x60]), (0x0100, [0xFF]), (0x0101, [0xFF])]) 0x0000 0x01 0x00 0x00 0x00 ⟨false, false,
      false, false, false, false, false⟩ [] = true := by
  decide

/-- `RTI` (R204): pulled 3C: bit 5 ignored, B D I loaded. -/
theorem test_CF12_rti :
    endsIn { st [(0x0801, [0x40]), (0x01FD, [0x3C]), (0x01FE, [0x00]), (0x01FF, [0x09])] with sp := 0xFC, p :=
      ⟨true, false, false, false, false, false, true⟩ } 0x0900 0xFF 0x00 0x00 0x00 ⟨false, false, true, true,
      true, false, false⟩ [] = true := by
  decide

/-- `BCC $0817` (R206): taken. -/
theorem test_CF13_bcc :
    endsIn { st [(0x0810, [0x90, 0x05])] with pc := 0x0810 } 0x0817 0xFF 0x00 0x00 0x00 ⟨false, false, false,
      false, false, false, false⟩ [] = true := by
  decide

/-- `BCC $0003` (R205): branch at FFFF: b1 read from 0000; base = FFFF+2 = 0001. -/
theorem test_CF32_bcc :
    endsIn { st [(0xFFFF, [0x90, 0x02]), (0x0000, [0x02])] with pc := 0xFFFF } 0x0003 0xFF 0x00 0x00 0x00
      ⟨false, false, false, false, false, false, false⟩ [] = true := by
  decide

/-- `BCS $0810` (R207): taken, targets itself. -/
theorem test_CF15_bcs :
    endsIn { st [(0x0810, [0xB0, 0xFE])] with pc := 0x0810, p := ⟨true, false, false, false, false, false,
      false⟩ } 0x0810 0xFF 0x00 0x00 0x00 ⟨true, false, false, false, false, false, false⟩ [] = true := by
  decide

/-- `BEQ $0822` (R208): taken. -/
theorem test_CF17_beq :
    endsIn { st [(0x0810, [0xF0, 0x10])] with pc := 0x0810, p := ⟨false, true, false, false, false, false,
      false⟩ } 0x0822 0xFF 0x00 0x00 0x00 ⟨false, true, false, false, false, false, false⟩ [] = true := by
  decide

/-- `BNE $0805` (R209): taken. -/
theorem test_CF19_bne :
    endsIn { st [(0x0808, [0xD0, 0xFB])] with pc := 0x0808 } 0x0805 0xFF 0x00 0x00 0x00 ⟨false, false, false,
      false, false, false, false⟩ [] = true := by
  decide

/-- `BNE $FF87` (R205): target wraps below 0000. -/
theorem test_CF30_bne :
    endsIn { st [(0x0005, [0xD0, 0x80])] with pc := 0x0005 } 0xFF87 0xFF 0x00 0x00 0x00 ⟨false, false, false,
      false, false, false, false⟩ [] = true := by
  decide

/-- `BMI $0792` (R210): taken, most negative displacement. -/
theorem test_CF21_bmi :
    endsIn { st [(0x0810, [0x30, 0x80])] with pc := 0x0810, p := ⟨false, false, false, false, false, false,
      true⟩ } 0x0792 0xFF 0x00 0x00 0x00 ⟨false, false, false, false, false, false, true⟩ [] = true := by
  decide

/-- `BPL $0891` (R211): taken, most positive displacement. -/
theorem test_CF23_bpl :
    endsIn { st [(0x0810, [0x10, 0x7F])] with pc := 0x0810 } 0x0891 0xFF 0x00 0x00 0x00 ⟨false, false, false,
      false, false, false, false⟩ [] = true := by
  decide

/-- `BVC $0816` (R212): not taken. -/
theorem test_CF25_bvc :
    endsIn { st [(0x0810, [0x50, 0x04])] with pc := 0x0810, p := ⟨false, false, false, false, false, true,
      false⟩ } 0x0812 0xFF 0x00 0x00 0x00 ⟨false, false, false, false, false, true, false⟩ [] = true := by
  decide

/-- `BVS $0816` (R213): taken. -/
theorem test_CF27_bvs :
    endsIn { st [(0x0810, [0x70, 0x04])] with pc := 0x0810, p := ⟨false, false, false, false, false, true,
      false⟩ } 0x0816 0xFF 0x00 0x00 0x00 ⟨false, false, false, false, false, true, false⟩ [] = true := by
  decide

/-- `PHA` (R221): SP wraps 00 to FF. -/
theorem test_ST2_pha :
    endsIn { st [(0x0801, [0x48])] with sp := 0x00, a := 0x42 } 0x0802 0xFF 0x42 0x00 0x00 ⟨false, false, false,
      false, false, false, false⟩ [(0x0100, 0x42)] = true := by
  decide

/-- `PHP` (R222). -/
theorem test_ST3_php :
    endsIn { st [(0x0801, [0x08])] with p := ⟨true, false, false, false, false, false, true⟩ } 0x0802 0xFE 0x00
      0x00 0x00 ⟨true, false, false, false, false, false, true⟩ [(0x01FF, 0xA1)] = true := by
  decide

/-- `PLA` (R223). -/
theorem test_ST6_pla :
    endsIn { st [(0x0801, [0x68]), (0x01FF, [0x00])] with sp := 0xFE, a := 0x77 } 0x0802 0xFF 0x00 0x00 0x00
      ⟨false, true, false, false, false, false, false⟩ [] = true := by
  decide

/-- `PLA` (R223): SP wraps FF to 00, reads 0100. -/
theorem test_ST7_pla :
    endsIn (st [(0x0801, [0x68]), (0x0100, [0x80])]) 0x0802 0x00 0x80 0x00 0x00 ⟨false, false, false, false,
      false, false, true⟩ [] = true := by
  decide

/-- `PLP` (R224). -/
theorem test_ST8_plp :
    endsIn { st [(0x0801, [0x28]), (0x01FF, [0xFF])] with sp := 0xFE } 0x0802 0xFF 0x00 0x00 0x00 ⟨true, true,
      true, true, true, true, true⟩ [] = true := by
  decide

/-- `PLP` (R224): pulled 10: P.B loaded from bit 4. -/
theorem test_ST11_plp :
    endsIn { st [(0x0801, [0x28]), (0x01FF, [0x10])] with sp := 0xFE } 0x0802 0xFF 0x00 0x00 0x00 ⟨false, false,
      false, false, true, false, false⟩ [] = true := by
  decide

/-- `CLC` (R225). -/
theorem test_ST12_clc :
    endsIn { st [(0x0801, [0x18])] with p := ⟨true, false, false, false, false, false, true⟩ } 0x0802 0xFF 0x00
      0x00 0x00 ⟨false, false, false, false, false, false, true⟩ [] = true := by
  decide

/-- `SEC` (R226). -/
theorem test_ST13_sec :
    endsIn (st [(0x0801, [0x38])]) 0x0802 0xFF 0x00 0x00 0x00 ⟨true, false, false, false, false, false, false⟩
      [] = true := by
  decide

/-- `CLI` (R227). -/
theorem test_ST14_cli :
    endsIn { st [(0x0801, [0x58])] with p := ⟨false, false, true, false, false, false, false⟩ } 0x0802 0xFF 0x00
      0x00 0x00 ⟨false, false, false, false, false, false, false⟩ [] = true := by
  decide

/-- `SEI` (R228). -/
theorem test_ST15_sei :
    endsIn (st [(0x0801, [0x78])]) 0x0802 0xFF 0x00 0x00 0x00 ⟨false, false, true, false, false, false, false⟩
      [] = true := by
  decide

/-- `CLD` (R229). -/
theorem test_ST16_cld :
    endsIn { st [(0x0801, [0xD8])] with p := ⟨false, false, false, true, false, false, false⟩ } 0x0802 0xFF 0x00
      0x00 0x00 ⟨false, false, false, false, false, false, false⟩ [] = true := by
  decide

/-- `SED` (R230). -/
theorem test_ST17_sed :
    endsIn (st [(0x0801, [0xF8])]) 0x0802 0xFF 0x00 0x00 0x00 ⟨false, false, false, true, false, false, false⟩
      [] = true := by
  decide

/-- `CLV` (R231). -/
theorem test_ST18_clv :
    endsIn { st [(0x0801, [0xB8])] with p := ⟨false, false, false, false, false, true, true⟩ } 0x0802 0xFF 0x00
      0x00 0x00 ⟨false, false, false, false, false, false, true⟩ [] = true := by
  decide

/-- `NOP` (R232): nothing but pc changes. -/
theorem test_ST19_nop :
    endsIn { st [(0x0801, [0xEA])] with sp := 0x44, a := 0x11, x := 0x22, y := 0x33, p := ⟨true, true, true,
      true, true, true, true⟩ } 0x0802 0x44 0x11 0x22 0x33 ⟨true, true, true, true, true, true, true⟩ [] = true := by
  decide

/-- `BRK` (R236): source-settled: nothing changes, pc stays. -/
theorem test_ST20_brk :
    stopsWith { st [(0x0803, [0x00])] with pc := 0x0803, a := 0x01 } (.halt ⟨.BRK, 0x0803⟩) = true := by
  decide

/-- `.byte $FF` (R245): source-settled (S8): fault, nothing changes. -/
theorem test_ST22_unknown_FF :
    stopsWith { st [(0x0801, [0xFF])] with a := 0x12, p := ⟨false, false, false, false, false, true, false⟩ }
      (.fault ⟨.unknownOpcode, 0xFF, 0x0801⟩) = true := by
  decide

/-- `.byte $EB` (R245): likewise; operand byte not read. -/
theorem test_ST24_unknown_EB :
    stopsWith { st [(0x0801, [0xEB, 0x01])] with a := 0x05 } (.fault ⟨.unknownOpcode, 0xEB, 0x0801⟩) = true := by
  decide

/-- `LDA ($FF,X)` (R126): izx pointer at 00FF: high byte from 0100 (not 0000). -/
theorem test_AM1_lda :
    endsIn (st [(0x0801, [0xA1, 0xFF]), (0x00FF, [0x00]), (0x0100, [0x30]), (0x0000, [0x40]), (0x3000, [0x42]),
      (0x4000, [0x99])]) 0x0803 0xFF 0x42 0x00 0x00 ⟨false, false, false, false, false, false, false⟩ [] = true := by
  decide

/-- `LDA ($FF),Y` (R127): izy pointer at 00FF: high byte from 0100. -/
theorem test_AM2_lda :
    endsIn { st [(0x0801, [0xB1, 0xFF]), (0x00FF, [0x00]), (0x0100, [0x30]), (0x0000, [0x40]), (0x3001, [0x42]),
      (0x4001, [0x99])] with y := 0x01 } 0x0803 0xFF 0x42 0x00 0x01 ⟨false, false, false, false, false, false,
      false⟩ [] = true := by
  decide

/-- `LDA $1234` (R130): instruction at FFFF: b1 at 0000, b2 at 0001. -/
theorem test_AM6_lda :
    endsIn { st [(0xFFFF, [0xAD]), (0x0000, [0x34]), (0x0001, [0x12]), (0x1234, [0x42])] with pc := 0xFFFF }
      0x0002 0xFF 0x42 0x00 0x00 ⟨false, false, false, false, false, false, false⟩ [] = true := by
  decide

/-- `INC $0801` (R67): read-modify-write of its own opcode byte: executes as INC, leaves EF there. -/
theorem test_AM9_inc :
    endsIn (st [(0x0801, [0xEE, 0x01, 0x08])]) 0x0804 0xFF 0x00 0x00 0x00 ⟨false, false, false, false, false,
      false, true⟩ [(0x0801, 0xEF)] = true := by
  decide

/-- `JSR $0200` (R67): JSR located at 01FD..01FF in the stack page: target taken from the bytes before the pushes overwrite them. -/
theorem test_AM10_jsr :
    endsIn { st [(0x01FD, [0x20, 0x00, 0x02])] with pc := 0x01FD } 0x0200 0xFD 0x00 0x00 0x00 ⟨false, false,
      false, false, false, false, false⟩ [(0x01FF, 0x01), (0x01FE, 0xFF)] = true := by
  decide

/-! ### Flag functions (95_test_vectors.md, 2.1) -/

theorem test_pack : Flags.pack ⟨true, false, false, false, false, false, true⟩ = 0xA1 ∧ Flags.clear.pack = 0x20 := by
  decide

theorem test_unpack : Flags.unpack 0xC3 = ⟨true, true, false, false, false, true, true⟩ := by decide

theorem test_carry_and_overflow :
    carryFromAddition 0xFF 0xFF true = (0xFF, true) ∧ overflowFromAddition 0x7F 0x00 0x80 = true ∧
      overflowFromAddition 0x80 0x7F 0xFF = false := by
  decide

/-! ### Host calls (95_test_vectors.md, 2.8) -/

/-- An initial memory that is not blank where the program goes. -/
def dirty : Memory := [(0, 0x55), (0x0801, 0xEE), (0x0803, 0xEE), (0x0805, 0xEE), (0xFFFC, 0x77)]

/-- The machine after loading the bytes at 0801 and the vector, and `reset()` (R287). -/
def armed (bytes : List Nat) : State :=
  match launch true bytes 0x0801 dirty with
  | .next s => s
  | .fault _ => State.constructed dirty
  | .refused _ => State.constructed dirty

/-- S6, EN1: the canonical launch, then `execute()`. -/
theorem test_EN1_report :
    (match execute T151 2 (armed [0xA9, 0x01, 0x00]) with
      | .next (_, r) => decide (r = ⟨.halted, 2, ⟨0x0803, 0x01, 0, 0, false, false, false, false, false, false, false⟩,
          some (.halt ⟨.BRK, 0x0803⟩)⟩)
      | .fault _ => false
      | .refused _ => false) = true := by
  decide

/-- A launch whose program is loaded over the top, with wrapping disallowed, fails (R54). -/
theorem test_launch_fails : launch false [0x11, 0x22] 0xFFFF dirty = .fault .outOfBoundsLoad := rfl

/-- The vector is loaded after the program, so it stands where they overlap (R287). -/
theorem test_launch_vector_last :
    (match launch true [0xEA, 0xEA] 0xFFFC [] with
      | .next s => decide (s.pc = 0xFFFC ∧ s.peek 0xFFFC = 0xFC)
      | .fault _ => false
      | .refused _ => false) = true := by
  decide

/-- What a step returned, and whether the engine runs on. -/
def returned (o : Host.Outcome (State × Event) Fault Refusal) : Option (EngineState × Event) :=
  match o with
  | .next (t, e) => some (t.engine, e)
  | .fault _ => none
  | .refused _ => none

/-- S6, EN1: the first step of the program returns a Snapshot. -/
theorem test_EN1_step :
    returned (stepCall T151 (armed [0xA9, 0x01, 0x00])) =
      some (.running, .snapshot ⟨0x0803, 0x01, 0, 0, false, false, false, false, false, false, false⟩) := by
  decide

/-- S4, EN3: BRK at the first byte halts after one retired instruction, registers as `reset()` left them. -/
theorem test_EN3_report :
    execute T151 1 (armed [0x00]) = .next
      (enterTerminal (.halt ⟨.BRK, 0x0801⟩) { armed [0x00] with engine := .running },
        ⟨.halted, 1, ⟨0x0801, 0, 0, 0, false, false, false, false, false, false, false⟩,
          some (.halt ⟨.BRK, 0x0801⟩)⟩) := rfl

/-- S8, EN4: the fault is reported, count 0. -/
theorem test_EN4_report :
    execute T151 1 (armed [0xFF]) = .next
      (enterTerminal (.fault ⟨.unknownOpcode, 0xFF, 0x0801⟩) { armed [0xFF] with engine := .running },
        ⟨.faulted, 0, ⟨0x0801, 0, 0, 0, false, false, false, false, false, false, false⟩,
          some (.fault ⟨.unknownOpcode, 0xFF, 0x0801⟩)⟩) := rfl

/-- EN10: no step with the ceiling 0; the engine stays armed. -/
theorem test_EN10_report :
    execute T151 0 (armed [0xA9]) = .next
      (armed [0xA9], ⟨.reset, 0, ⟨0x0801, 0, 0, 0, false, false, false, false, false, false, false⟩, none⟩) := rfl

/-- EN13: before the first `reset()` there is no transition. -/
theorem test_EN13_refused : stepWith T151 (State.constructed []) = .refused .stepBeforeReset := rfl

/-- EN15: loading the vector after `reset()` does not move `pc`. -/
theorem test_EN15_pc :
    (hostCall T151 (.loadProgram true [0x02, 0x08] 0xFFFC) (armed [0xA9, 0x01, 0x00])).pc = 0x0801 := by
  decide

/-- EN17: a halted engine is not revived by loading and `debugSetPC`. -/
theorem test_EN17_step :
    returned (stepCall T151 (debugSetPC 0x0900 (halt (armed [0x00])))) = some (.halted, .halt ⟨.BRK, 0x0801⟩) := by
  decide

/-- EN18: a load that wraps. -/
theorem test_EN18_load :
    Memory.loadBlock [] true [0x11, 0x22, 0x33] 0xFFFE = some [(0, 0x33), (0xFFFE, 0x11), (0xFFFF, 0x22)] := by
  decide

/-- EN19: the same with wrapping disallowed. -/
theorem test_EN19_load : Memory.loadBlock [] false [0x11, 0x22, 0x33] 0xFFFE = none := by decide

/-- EN20: the longest load that fits. -/
theorem test_EN20_load :
    Memory.loadBlock [] false [0x11, 0x22] 0xFFFE = some [(0xFFFE, 0x11), (0xFFFF, 0x22)] := by
  decide

/-- EN21: an element above FF is masked. -/
theorem test_EN21_load : Memory.loadBlock [] true [0x1FF] 0x2000 = some [(0x2000, 0xFF)] := by decide

/-- EN22: the vector is little-endian. -/
theorem test_EN22_reset : (engineReset (State.constructed (Memory.copyBlock [] [0x34, 0x12] 0xFFFC))).pc = 0x1234 := by
  decide

/-- EN23: the Register File's reset with a vector word that wraps. -/
theorem test_EN23_reset :
    (registerFileReset 0xFFFF (State.constructed (Memory.copyBlock [] [0x34, 0x12] 0xFFFF))).pc = 0x1234 := by
  decide

/-- EN24: under `T2` the byte AA is unknown. -/
theorem test_EN24_step :
    returned (stepCall T2 (armed [0xAA])) = some (.faulted, .fault ⟨.unknownOpcode, 0xAA, 0x0801⟩) := by
  decide

/-- `State.reset` is the first `reset()` of a machine with nothing in memory (R280, R285, log 1). -/
theorem reset_eq_engineReset : engineReset (State.constructed []) = State.reset := rfl

/-- The instruction `withFetchWord` places is the one the next step runs, the first after reset (log 4). -/
theorem test_fetch_word_runs :
    step (State.reset.withFetchWord 24 0x1234AE) = exec (.ldxAbs 0x1234)
      { State.reset.withFetchWord 24 0x1234AE with engine := .running } := rfl

/-- `withFetchWord` revives a halted engine and touches nothing else but three bytes at `pc`. -/
theorem test_fetch_word_revives :
    (halt State.reset).withFetchWord 8 0xE8 =
      { halt State.reset with engine := .reset, resetDone := true, term := none, mem := [(0, 0xE8)] } := rfl

/-! ### Memory (20_memory.md R51 to R53) -/

/-- S2: a word at FFFF has its high byte at 0000; addresses wrap and values are masked. -/
theorem test_memory_wraps :
    (Memory.copyBlock [] [0x34, 0x12] 0xFFFF).readWord 0xFFFF = 0x1234 ∧
      (Memory.writeByte [] 0x10005 0x1FF).readByte 5 = 0xFF := by
  decide

/-- Writing what an unlisted byte reads as removes the entry. -/
theorem test_memory_canonical : (Memory.writeByte [] 5 7).writeByte 5 0 = [] := by decide

/-! ### Witnesses: states and operands that meet the hypotheses of the statements -/

/-- An engine running at 0801 over the bytes given. -/
def running (bytes : List Nat) : State := st [(0x0801, bytes)]

theorem wf_running (bytes : List Nat) : (running bytes).mem.wf := wf_copyBlock wf_nil bytes _

theorem witness_DecodingFollowsTheTable :
    OpTable.wf T2 = true ∧
      (⟨0xA9, (Instr.ldaImm 0xFF).mnemonic, some (Instr.ldaImm 0xFF).mode, (Instr.ldaImm 0xFF).length⟩ : Entry) ∈ T2 ∧
      decode T2 [0xA9, 0xFF, 0x01] = .ok (.ldaImm 0xFF, [0x01]) :=
  ⟨by decide, by decide, rfl⟩

theorem witness_EncodeOfDecodeIsTheBytes : decode T151 [0xAD, 0x34, 0x12, 0xEA] = .ok (.ldaAbs 0x1234, [0xEA]) := rfl

theorem witness_UnknownBytesAreThoseListed :
    OpTable.admissible T2 = true ∧ Executes (running [0xFF]) ∧
      T151.lookup ((running [0xFF]).peek (running [0xFF]).pc) = none :=
  ⟨by decide, .inl rfl, rfl⟩

theorem witness_StepRunsTheDecodedInstruction :
    (decode3 T151 ((running [0xAD, 0x34, 0x12]).peek 0x0801) ((running [0xAD, 0x34, 0x12]).peek (0x0801 + 1))
        ((running [0xAD, 0x34, 0x12]).peek (0x0801 + 2)) = .ok (.ldaAbs 0x1234) ∧
      (running [0xAD, 0x34, 0x12]).engine = .running) ∧
    decode3 T151 (State.reset.peek State.reset.pc) (State.reset.peek (State.reset.pc + 1))
        (State.reset.peek (State.reset.pc + 2)) = .ok .brk ∧
      State.reset.engine = .reset ∧ State.reset.resetDone = true :=
  ⟨⟨rfl, rfl⟩, rfl, rfl, rfl⟩

theorem witness_ArmedEngineStepsAsRunning :
    State.reset.engine = .reset ∧ State.reset.resetDone = true ∧
      ∃ t, stepWith T151 State.reset = .next t :=
  ⟨rfl, rfl, _, rfl⟩

theorem witness_UnknownOpcodeFaults :
    (Executes (running [0xFF]) ∧ T151.lookup ((running [0xFF]).peek (running [0xFF]).pc) = none) ∧
      Executes (armed [0x02]) ∧ T2.lookup ((armed [0x02]).peek (armed [0x02]).pc) = none :=
  ⟨⟨.inl rfl, rfl⟩, .inr ⟨rfl, rfl⟩, rfl⟩

/-- One entry for each of the three ways to be ill formed. -/
theorem witness_IllFormedEntryFaults :
    Executes (running [0x9A]) ∧
      (∃ e, OpTable.lookup [⟨0x9A, .TXS, none, 1⟩] ((running [0x9A]).peek (running [0x9A]).pc) = some e ∧
        e.mode = none) ∧
      (∃ e, OpTable.lookup [⟨0x9A, .TXS, some .imp, 2⟩] ((running [0x9A]).peek (running [0x9A]).pc) = some e ∧
        ∃ m, e.mode = some m ∧ e.length ≠ m.len) ∧
      ∃ e, OpTable.lookup [⟨0x9A, .TXS, some .imm, 2⟩] ((running [0x9A]).peek (running [0x9A]).pc) = some e ∧
        ∃ m, e.mode = some m ∧ m ∉ e.mnemonic.modes :=
  ⟨.inl rfl, ⟨_, rfl, rfl⟩, ⟨_, rfl, _, rfl, by decide⟩, ⟨_, rfl, _, rfl, by decide⟩⟩

theorem witness_BrkHalts : Executes State.reset ∧ State.reset.peek State.reset.pc = 0x00 := ⟨.inr ⟨rfl, rfl⟩, rfl⟩

theorem witness_TerminalStatesStay :
    ((halt State.reset).engine = .halted ∧ (halt State.reset).term = some (.halt ⟨.BRK, 0⟩)) ∧
      ((raiseFault .unknownOpcode (running [0xFF])).engine = .faulted ∧
        (raiseFault .unknownOpcode (running [0xFF])).term = some (.fault ⟨.unknownOpcode, 0xFF, 0x0801⟩)) ∧
      HostCall.debugSetPC 0x0900 ≠ .reset :=
  ⟨⟨rfl, rfl⟩, ⟨rfl, rfl⟩, by decide⟩

theorem witness_NoTransitionExactlyBeforeReset :
    ((State.constructed []).engine = .reset ∧ (State.constructed []).resetDone = false) ∧
      ¬(State.reset.engine = .reset ∧ State.reset.resetDone = false) :=
  ⟨⟨rfl, rfl⟩, by decide⟩

/-- One state for each of the three ends. -/
theorem witness_StepIsAllOrNothing :
    (Executes (running [0xEA]) ∧ ∃ t, step (running [0xEA]) = .next t ∧ t.engine = .running) ∧
      (Executes (running [0x00]) ∧ ∃ t, step (running [0x00]) = .next t ∧ t.engine = .halted) ∧
      Executes (running [0xFF]) ∧ ∃ t, step (running [0xFF]) = .next t ∧ t.engine = .faulted :=
  ⟨⟨.inl rfl, _, rfl, rfl⟩, ⟨.inl rfl, _, rfl, rfl⟩, .inl rfl, _, rfl, rfl⟩

theorem witness_OnlyBrkAndUnknownBytesEndARun :
    ∃ t, Executes (armed [0xFC]) ∧ step (armed [0xFC]) = .next t ∧ t.engine = .faulted :=
  ⟨_, .inr ⟨rfl, rfl⟩, rfl, rfl⟩

theorem inv_running (bytes : List Nat) : Inv (running bytes) :=
  ⟨wf_running bytes, ⟨rfl, rfl⟩, fun _ h => nomatch h⟩

theorem witness_StepKeepsInv :
    ∃ t, Inv (running [0x20, 0x00, 0xC0]) ∧ step (running [0x20, 0x00, 0xC0]) = .next t :=
  ⟨_, inv_running _, rfl⟩

/-- A state with the invariant that no reset led to, a canonical memory, and a halted and a faulted state that host calls
reach. -/
theorem witness_InvHoldsInEveryReachableState :
    Inv (running [0x20, 0x00, 0xC0]) ∧
      (Memory.wf [] ∧ ∃ s, Reachable T151 [] s ∧ s.engine = .halted) ∧
      Memory.wf [(0, 0xFF)] ∧ ∃ s, Reachable T151 [(0, 0xFF)] s ∧ s.engine = .faulted :=
  ⟨inv_running _, ⟨wf_nil, _, .call _ .step (.call _ .reset .constructed), rfl⟩, by decide, _,
    .call _ .step (.call _ .reset .constructed), rfl⟩

/-- A mode of each length, and a branch with the most negative displacement, taken and not taken. -/
theorem witness_EffectiveAddressesAreAsStated :
    instrOf .ASL .acc 0x34 0x12 = some .aslAcc ∧ instrOf .LDX .zpy 0xFF 0x12 = some (.ldxZpy 0xFF) ∧
      instrOf .JMP .ind 0xFF 0xFF = some (.jmpInd 0xFFFF) ∧
      (0x90, Instr.bcc 0x80, fun p : Flags => !p.c) ∈ branchForms 0x80 ∧
      (fun p : Flags => !p.c) Flags.clear = true ∧ (fun p : Flags => !p.c) { Flags.clear with c := true } = false :=
  ⟨rfl, rfl, rfl, by simp [branchForms], rfl, rfl⟩

theorem witness_StreamGrowsByWhatAStepReturns :
    (EngineCoherent (running [0xEA]) ∧ Executes (running [0xEA])) ∧
      (EngineCoherent (halt (running [0x00])) ∧ (halt (running [0x00])).terminal = true ∧
        ∃ t, stepWith T151 (halt (running [0x00])) = .next t) ∧
      HostCall.reset ≠ .step ∧ ∀ n, HostCall.reset ≠ .execute n :=
  ⟨⟨(inv_running _).2, .inl rfl⟩,
    ⟨⟨⟨⟨_, rfl⟩, rfl⟩, fun sig h => by cases h; rfl⟩, rfl, _, rfl⟩, by decide, fun _ => nofun⟩

theorem witness_ExecuteIsRepeatedStep : ¬(State.reset.engine = .reset ∧ State.reset.resetDone = false) := by decide

/-- One run that goes on, and one that stops on its last step. -/
theorem witness_ARunEmitsSnapshotsThenItsSignal :
    (Executes (running [0xEA, 0xFF]) ∧ (running [0xEA, 0xFF]).term = none) ∧
      (∃ t, Host.Core.run core 1 (running [0xEA, 0xFF]) = .next t ∧ t.term = none) ∧
      ∃ t sig, Host.Core.run core 2 (running [0xEA, 0xFF]) = .next t ∧ t.term = some sig :=
  ⟨⟨.inl rfl, rfl⟩, ⟨_, rfl, rfl⟩, _, _, rfl, rfl⟩

/-- Two ceilings, the second running into the end. -/
theorem witness_ExecuteContinues :
    ∃ t r u r', execute T151 1 (running [0xEA, 0x00]) = .next (t, r) ∧ execute T151 2 t = .next (u, r') ∧
      r'.instructionCount = 1 :=
  ⟨_, _, _, _, rfl, rfl, rfl⟩

theorem witness_ResetDependsOnTheVectorAlone :
    (armed [0xEA]).peek 0xFFFC = (halt (armed [0x00])).peek 0xFFFC ∧
      (armed [0xEA]).peek 0xFFFD = (halt (armed [0x00])).peek 0xFFFD ∧
      (armed [0xEA]).peek 0x0801 ≠ (halt (armed [0x00])).peek 0x0801 :=
  ⟨rfl, rfl, by decide⟩

/-- A load that fails, a load that ends at the top, a load that wraps; a byte no later one falls on, at either end; an
address outside the block. -/
theorem witness_LoadBlockCopiesTheBytes :
    Memory.wf [] ∧ (false = false ∧ (0xFFFE : Addr).toNat + [0x11, 0x22, 0x33].length > 65536) ∧
      (∃ m', Memory.loadBlock [] false [0x11, 0x22] 0xFFFE = some m') ∧
      (∃ m', Memory.loadBlock [] true [0x11, 0x22, 0x33] 0xFFFE = some m') ∧
      (∀ i, i < 3 → ∀ j, i < j → j < 3 → (0xFFFE + j) % 65536 ≠ (0xFFFE + i) % 65536) ∧
      ∀ j, j < 3 → (0xFFFE + j) % 65536 ≠ 0xFFFD % 65536 ∧ (0xFFFE + j) % 65536 ≠ 1 % 65536 :=
  ⟨wf_nil, by decide, ⟨_, rfl⟩, ⟨_, rfl⟩, by omega, by omega⟩

/-- A launch that ends at the vector, the canonical one on a memory that is not blank, and a table. -/
theorem witness_FirstResetOfAConstructedMachine :
    (∃ s, Launched false [0xEA, 0x00] 0xFFFA s ∧ (0xFFFA : Addr).toNat + [0xEA, 0x00].length ≤ 0xFFFC) ∧
      CanonicalLaunch (armed [0xA9, 0x01, 0x00]) ∧ OpTable.admissible T2 = true :=
  ⟨⟨_, ⟨dirty, by decide, rfl⟩, by decide⟩, ⟨dirty, by decide, rfl⟩, by decide⟩

theorem witness_LoadProgramWritesMemoryAlone :
    (∃ m, State.reset.mem.loadBlock true [0x11] 0xFFFF = some m) ∧
      State.reset.mem.loadBlock false [0x11, 0x22] 0xFFFF = none :=
  ⟨⟨_, rfl⟩, rfl⟩

theorem witness_MemoryReadsWhatWasWritten : Memory.wf [(0, 0x12), (0xFFFF, 0x34)] := by decide

/-- One memory reached by different writes. -/
theorem witness_CanonicalMemoryIsItsBytes :
    Memory.wf [(5, 1)] ∧ (((Memory.writeByte [] 7 2).writeByte 5 1).writeByte 7 0).wf ∧
      ∀ k, k < 65536 → Memory.readByte [(5, 1)] k =
        (((Memory.writeByte [] 7 2).writeByte 5 1).writeByte 7 0).readByte k :=
  ⟨by decide, by decide, fun _ _ => rfl⟩

theorem witness_LoadsWriteTheRegisterAndZN :
    (0xB6, Instr.ldxZpy 0xFF, Reg.X, Source.mem (.zpy 0xFF), 2) ∈ loadForms 0xFF 0x00 := by decide

theorem witness_StoresWriteTheByteAtEa :
    (0x81, Instr.staIzx 0xFF, Reg.A, AddrForm.izx 0xFF, 2) ∈ storeForms 0xFF 0x00 ∧ (running [0x81, 0xFF]).mem.wf :=
  ⟨by decide, wf_running _⟩

theorem witness_TransfersCopyTheRegisterAndSetZN : (0xBA, Instr.tsx, Reg.SP, Reg.X, 1) ∈ transferForms := by decide

theorem witness_AdcAddsWithCarry : (0x69, Instr.adcImm 0x80, Source.imm 0x80, 2) ∈ adcForms 0x80 0x00 := by decide

theorem witness_SbcSubtractsWithBorrow :
    (0xF1, Instr.sbcIzy 0xFF, Source.mem (.izy 0xFF), 2) ∈ sbcForms 0xFF 0x00 := by decide

theorem witness_LogicActsOnEachBit :
    (0x29, Instr.andImm 0x0F, and, Source.imm 0x0F, 2) ∈ logicForms 0x0F 0x00 := by simp [logicForms]

theorem witness_ComparesSetFlagsAlone :
    (0xCC, Instr.cpyAbs 0xFFFF, Reg.Y, Source.mem (.abs 0xFFFF), 3) ∈ compareForms 0xFF 0xFF := by decide

theorem witness_BitTestsTheOperand : (0x24, Instr.bitZp 0x10, AddrForm.zp 0x10, 2) ∈ bitForms 0x10 0x00 := by decide

theorem witness_IncDecRewriteTheByteAtEa :
    (0xDE, Instr.decAbx 0xFFFF, 255, AddrForm.abx 0xFFFF, 3) ∈ stepMemForms 0xFF 0xFF ∧
      (running [0xDE, 0xFF, 0xFF]).mem.wf :=
  ⟨by decide, wf_running _⟩

theorem witness_RegisterIncDecWrapAndSetZN : (0x88, Instr.dey, 255, Reg.Y, 1) ∈ stepRegForms := by decide

theorem witness_ShiftsMoveOneBitThroughCarry :
    (0x6A, Instr.rorAcc, rorNat, 1) ∈ shiftAccForms ∧
      (0x06, Instr.aslZp 0xFF, aslNat, AddrForm.zp 0xFF, 2) ∈ shiftMemForms 0xFF 0x00 ∧
      (running [0x06, 0xFF]).mem.wf :=
  ⟨by simp [shiftAccForms], by simp [shiftMemForms], wf_running _⟩

theorem witness_JmpGoesToEa : (0x6C, Instr.jmpInd 0xFFFF, AddrForm.ind 0xFFFF) ∈ jmpForms 0xFF 0xFF := by decide

theorem witness_JsrPushesAndJumps : (running [0x20, 0x00, 0xC0]).mem.wf := wf_running _

theorem witness_BranchesGoWhereTheFlagSays :
    (0x90, Instr.bcc 0x80, fun p : Flags => !p.c) ∈ branchForms 0x80 := by simp [branchForms]

/-- Where JSR ends, and a state with another A and `pc`, in which a byte below the return address was pushed and pulled. -/
theorem witness_RtsAfterJsrReturnsBehindTheCall :
    (running []).mem.wf ∧ ∃ t u, exec (.jsr 0xC000) (running []) = .next t ∧
      u = { (t.push 0x99).pull with a := 0x07, pc := 0xC123 } ∧ u.sp = t.sp ∧
      u.peek (stackByte (u.sp.toNat + 1)) = t.peek (stackByte (u.sp.toNat + 1)) ∧
      u.peek (stackByte (u.sp.toNat + 2)) = t.peek (stackByte (u.sp.toNat + 2)) ∧
      u.peek (stackByte u.sp.toNat) ≠ t.peek (stackByte u.sp.toNat) :=
  ⟨wf_running _, _, _, rfl, rfl, by decide, by decide, by decide, by decide⟩

theorem witness_PushesStoreAndDecrement : ({ running [0x48] with sp := 0x00 } : State).mem.wf := wf_running _

theorem witness_PlpPullsAllSevenFlags :
    (running []).mem.wf ∧ ∃ t u, exec .php (running []) = .next t ∧ exec .plp t = .next u :=
  ⟨wf_running _, _, _, rfl, rfl⟩

theorem witness_PullAfterPushReturnsTheByte : ({ running [] with sp := 0xFF } : State).mem.wf := wf_running _

theorem witness_FlagInstructionsWriteOneFlag :
    (0xB8, Instr.clv, fun p : Flags => { p with v := false }) ∈ flagForms := by simp [flagForms]

theorem witness_PcAdvancesByTheLength :
    (∃ t, exec (.ldaAbs 0x1234) { running [] with pc := 0xFFFD } = .next t ∧
      (Instr.ldaAbs 0x1234).mnemonic ∉
        [Mnemonic.JMP, .JSR, .RTS, .RTI, .BCC, .BCS, .BEQ, .BNE, .BMI, .BPL, .BVC, .BVS, .BRK]) ∧
    ∃ t, exec .brk (running []) = .next t :=
  ⟨⟨_, rfl, by decide⟩, _, rfl⟩

/-- Whether an instruction changes what `f` looks at. -/
def changes {α : Type} [DecidableEq α] (f : State → α) (i : Instr) (s : State) : Bool :=
  match exec i s with
  | .next t => decide (f t ≠ f s)
  | .fault _ => false
  | .refused _ => false

/-- Each of the seven flags is changed by some instruction. -/
theorem witness_EachFlagHasItsWriters :
    changes (·.p.c) .sec (running []) = true ∧ changes (·.p.z) (.ldaImm 0x00) (running []) = true ∧
      changes (·.p.i) .sei (running []) = true ∧ changes (·.p.d) .sed (running []) = true ∧
      changes (·.p.b) .plp { running [] with sp := 0x00, mem := [(0x0101, 0x10)] } = true ∧
      changes (·.p.v) (.adcImm 0x7F) { running [] with a := 0x7F } = true ∧
      changes (·.p.n) (.ldxImm 0x80) (running []) = true := by
  decide

/-- Each register, and memory, is changed by some instruction of each kind its row lists. -/
theorem witness_EachRegisterHasItsWriters :
    changes (·.a) (.ldaImm 0x01) (running []) = true ∧ changes (·.a) .aslAcc { running [] with a := 0x01 } = true ∧
      changes (·.x) .inx (running []) = true ∧ changes (·.y) .dey (running []) = true ∧
      changes (·.sp) .pla (running []) = true ∧ changes (·.mem) (.incZp 0x10) (running []) = true ∧
      changes (·.mem) .php (running []) = true := by
  decide

/-- Besides a plain instruction, PHP, the one that can tell the difference. -/
theorem witness_InertFlagsInfluenceNothing :
    (∃ t, exec (.adcImm 0x09) (running []) = .next t ∧ Instr.adcImm 0x09 ≠ .php ∧ (running []).mem.wf) ∧
      ∃ t, exec .php (running []) = .next t :=
  ⟨⟨_, rfl, by decide, wf_running _⟩, _, rfl⟩

end Sys2Proof.Tests
end

namespace Sys2Proof.Machine

open Stated

/-! ### The packed flag byte (10_state.md R28) -/

theorem toNat_pack (p : Flags) : p.pack.toNat = byteOfFlags p := by
  have hc := Bool.toNat_le p.c
  have hz := Bool.toNat_le p.z
  have hi := Bool.toNat_le p.i
  have hd := Bool.toNat_le p.d
  have hb := Bool.toNat_le p.b
  have hv := Bool.toNat_le p.v
  have hn := Bool.toNat_le p.n
  simp only [Flags.pack, byteOfFlags, BitVec.toNat_ofNat]
  omega

theorem unpack_eq_flagsOfByte (b : Byte) : Flags.unpack b = flagsOfByte b := rfl

theorem unpack_pack (p : Flags) : Flags.unpack p.pack = p := by
  obtain ⟨c, z, i, d, b, v, n⟩ := p
  revert c z i d b v n
  decide

theorem getLsbD_pack_five (p : Flags) : p.pack.getLsbD 5 = true := by
  obtain ⟨c, z, i, d, b, v, n⟩ := p
  revert c z i d b v n
  decide

/-- Bit 5 of a packed byte is set, and its other bits are read back by `unpack_pack`. -/
theorem pack_unpack (b : Byte) : (Flags.unpack b).pack = b ||| 0x20 := by
  have hflags := unpack_pack (Flags.unpack b)
  have hfive := getLsbD_pack_five (Flags.unpack b)
  generalize (Flags.unpack b).pack = w at hflags hfive ⊢
  simp only [Flags.unpack, Flags.mk.injEq] at hflags
  refine BitVec.eq_of_getLsbD_eq fun k hk => ?_
  interval_cases k <;> simp_all

/-- Settles O31: the layout on numbers, and both round trips. -/
theorem packedFlagsRoundTrip : Obligations.PackedFlagsRoundTrip :=
  ⟨toNat_pack, unpack_eq_flagsOfByte, unpack_pack, pack_unpack⟩

/-! ### The invariant (10_state.md R40, 60_exceptions.md R240 to R245) -/

theorem inv_enterTerminal {s : State} (hw : s.mem.wf) (hr : s.resetDone = true) (sig : Signal) :
    Inv (enterTerminal sig s) := by
  refine ⟨hw, ?_, fun sig' h => ?_⟩
  · cases sig
    · exact ⟨⟨_, rfl⟩, hr⟩
    · exact ⟨⟨_, rfl⟩, hr⟩
  · obtain rfl := Option.some.inj h
    simp

theorem inv_of_running {s : State} (hw : s.mem.wf) (he : s.engine = .running) (ht : s.term = none)
    (hr : s.resetDone = true) : Inv s := by
  refine ⟨hw, ?_, fun sig h => ?_⟩
  · simp only [he]
    exact ⟨ht, hr⟩
  · simp [ht] at h

theorem term_of_inv_running {s : State} (h : Inv s) (he : s.engine = .running) :
    s.term = none ∧ s.resetDone = true := by
  simpa only [he] using h.2.1

theorem term_of_inv_reset {s : State} (h : Inv s) (he : s.engine = .reset) : s.term = none := by
  simpa only [he] using h.2.1

/-- A running engine keeps the invariant: it faults, halts or retires an instruction. -/
theorem stepRunning_keeps_inv {tbl : OpTable} {s t : State} (h : Inv s) (he : s.engine = .running)
    (hstep : stepRunning tbl s = .next t) : Inv t := by
  obtain ⟨ht, hr⟩ := term_of_inv_running h he
  rcases stepRunning_cases s tbl with ⟨k, hf⟩ | ⟨-, hh⟩ | ⟨npc, u, hu, hn⟩
  · cases hf.symm.trans hstep
    exact inv_enterTerminal h.1 hr _
  · cases hh.symm.trans hstep
    exact inv_enterTerminal h.1 hr _
  · cases hn.symm.trans hstep
    exact inv_of_running (hu.wf h.1) (hu.engine.trans he) (hu.term.trans ht) (hu.resetDone.trans hr)

/-- Every step keeps the invariant: before the first reset there is none, an armed engine steps as a running one, and a
terminal state stays. -/
theorem stepWith_keeps_inv {tbl : OpTable} {s t : State} (h : Inv s) (hstep : stepWith tbl s = .next t) : Inv t := by
  rcases stepWith_cases s tbl with ⟨-, -, hs⟩ | ⟨he, hr, hs⟩ | ⟨he, hs⟩ | ⟨-, hs⟩
  · cases hs.symm.trans hstep
  · have ht := term_of_inv_reset h he
    have harmed : Inv { s with engine := .running } := inv_of_running h.1 rfl ht hr
    exact stepRunning_keeps_inv harmed rfl (hs.symm.trans hstep)
  · exact stepRunning_keeps_inv h he (hs.symm.trans hstep)
  · cases hs.symm.trans hstep
    exact h

/-- Settles O15: `step` is `stepWith` with the default table. -/
theorem stepKeepsInv : Obligations.StepKeepsInv :=
  ⟨fun _ _ => stepWith_keeps_inv, fun _ _ _ => stepWith_keeps_inv⟩

/-- Settles O16: memory lists nothing, and the engine is armed with no signal stored. -/
theorem invHoldsAtReset : Obligations.InvHoldsAtReset := ⟨wf_nil, rfl, fun _ h => nomatch h⟩

/-! ### The meaning of an instruction, by its mnemonic, mode and operand -/

/-- The addressing form of a mode and its operand bytes; a mode without an effective address (R115) has none, and no
mnemonic asks for it there. -/
def operandForm : Mode → OperandBytes → AddrForm
  | .zp, .one b1 => .zp b1
  | .zpx, .one b1 => .zpx b1
  | .zpy, .one b1 => .zpy b1
  | .izx, .one b1 => .izx b1
  | .izy, .one b1 => .izy b1
  | .rel, .one b1 => .rel b1
  | .abs, .two a => .abs a
  | .abx, .two a => .abx a
  | .aby, .two a => .aby a
  | .ind, .two a => .ind a
  | _, _ => .abs 0

/-- What an instruction of the mode reads its value from (R128). -/
def operandSource : Mode → OperandBytes → Source
  | .imm, .one v => .imm v
  | m, o => .mem (operandForm m o)

/-- What a read-modify-write instruction of the mode works on (R128). -/
def operandPlace : Mode → OperandBytes → Place
  | .acc, _ => .acc
  | m, o => .mem (operandForm m o)

/-- What the mnemonic's rule does to registers, flags and memory; nothing for the jumps, the branches, NOP and BRK. -/
def handlerOf (mn : Mnemonic) (m : Mode) (o : OperandBytes) (s : State) : State :=
  match mn with
  | .LDA => load .A (operandSource m o) s
  | .LDX => load .X (operandSource m o) s
  | .LDY => load .Y (operandSource m o) s
  | .STA => store .A (operandForm m o) s
  | .STX => store .X (operandForm m o) s
  | .STY => store .Y (operandForm m o) s
  | .TAX => moveReg .X .A s
  | .TAY => moveReg .Y .A s
  | .TXA => moveReg .A .X s
  | .TYA => moveReg .A .Y s
  | .TSX => moveReg .X .SP s
  | .TXS => txs s
  | .ADC => adc (operandSource m o) s
  | .SBC => sbc (operandSource m o) s
  | .AND => logic (· &&& ·) (operandSource m o) s
  | .ORA => logic (· ||| ·) (operandSource m o) s
  | .EOR => logic (· ^^^ ·) (operandSource m o) s
  | .CMP => compare .A (operandSource m o) s
  | .CPX => compare .X (operandSource m o) s
  | .CPY => compare .Y (operandSource m o) s
  | .BIT => bitTest (operandSource m o) s
  | .INC => stepMem (· + 1) (operandForm m o) s
  | .DEC => stepMem (· - 1) (operandForm m o) s
  | .INX => stepReg (· + 1) .X s
  | .INY => stepReg (· + 1) .Y s
  | .DEX => stepReg (· - 1) .X s
  | .DEY => stepReg (· - 1) .Y s
  | .ASL => shift aslByte (operandPlace m o) s
  | .LSR => shift lsrByte (operandPlace m o) s
  | .ROL => shift (rolByte s.p.c) (operandPlace m o) s
  | .ROR => shift (rorByte s.p.c) (operandPlace m o) s
  | .JSR => pushWord (s.pc + 2) s
  | .RTS => pullWord s
  | .RTI => pullWord (plp s)
  | .PHA => s.push s.a
  | .PHP => s.push s.p.pack
  | .PLA => pla s
  | .PLP => plp s
  | .CLC => s.setFlags { s.p with c := false }
  | .SEC => s.setFlags { s.p with c := true }
  | .CLI => s.setFlags { s.p with i := false }
  | .SEI => s.setFlags { s.p with i := true }
  | .CLD => s.setFlags { s.p with d := false }
  | .SED => s.setFlags { s.p with d := true }
  | .CLV => s.setFlags { s.p with v := false }
  | .JMP | .BCC | .BCS | .BEQ | .BNE | .BMI | .BPL | .BVC | .BVS | .NOP | .BRK => s

/-- Where a branch with the condition goes (R205). -/
def branchTarget (cond : Bool) (f : AddrForm) (s : State) : Addr := if cond then ea f s else s.pc + 2

/-- The next `pc` of an instruction that retires (R131). -/
def nextPc (mn : Mnemonic) (m : Mode) (o : OperandBytes) (s : State) : Addr :=
  match mn with
  | .JMP | .JSR => ea (operandForm m o) s
  | .RTS => s.pulledWord + 1
  | .RTI => (plp s).pulledWord
  | .BCC => branchTarget (!s.p.c) (operandForm m o) s
  | .BCS => branchTarget s.p.c (operandForm m o) s
  | .BEQ => branchTarget s.p.z (operandForm m o) s
  | .BNE => branchTarget (!s.p.z) (operandForm m o) s
  | .BMI => branchTarget s.p.n (operandForm m o) s
  | .BPL => branchTarget (!s.p.n) (operandForm m o) s
  | .BVC => branchTarget (!s.p.v) (operandForm m o) s
  | .BVS => branchTarget s.p.v (operandForm m o) s
  | _ => s.pc + BitVec.ofNat 16 m.len

theorem exec_brk (s : State) : exec .brk s = .next (halt s) := rfl

/-- Every instruction but BRK runs its mnemonic's handler on its operand and retires. -/
theorem exec_eq_retire {i : Instr} (h : i ≠ .brk) (s : State) :
    exec i s = .next (retire (nextPc i.mnemonic i.mode i.operand s) (handlerOf i.mnemonic i.mode i.operand s)) := by
  cases i
  case brk => exact absurd rfl h
  all_goals rfl

/-- What an instruction can leave: a halted machine for BRK, else what its handler left, retired. -/
theorem exec_next_cases {i : Instr} {s t : State} (h : exec i s = .next t) :
    (i = .brk ∧ t = halt s) ∨
    (i ≠ .brk ∧
      t = retire (nextPc i.mnemonic i.mode i.operand s) (handlerOf i.mnemonic i.mode i.operand s)) := by
  by_cases hi : i = .brk
  · subst hi
    cases h
    exact .inl ⟨rfl, rfl⟩
  · rw [exec_eq_retire hi] at h
    cases h
    exact .inr ⟨hi, rfl⟩

/-! ### `pc` (10_state.md R24) -/

theorem nextPc_eq_of_not_control {mn : Mnemonic}
    (h : mn ∉ [Mnemonic.JMP, .JSR, .RTS, .RTI, .BCC, .BCS, .BEQ, .BNE, .BMI, .BPL, .BVC, .BVS, .BRK])
    (m : Mode) (o : OperandBytes) (s : State) : nextPc mn m o s = s.pc + BitVec.ofNat 16 m.len := by
  cases mn
  case JMP | JSR | RTS | RTI | BCC | BCS | BEQ | BNE | BMI | BPL | BVC | BVS | BRK => exact absurd (by decide) h
  all_goals rfl

/-- Settles O57: outside the control transfers the next `pc` is past the instruction, and BRK halts where it is. -/
theorem pcAdvancesByTheLength : Obligations.PcAdvancesByTheLength := by
  intro i s t h
  rcases exec_next_cases h with ⟨rfl, rfl⟩ | ⟨hi, rfl⟩
  · exact ⟨fun hm => absurd (by decide) hm, fun _ => rfl⟩
  · refine ⟨fun hm => ?_, fun hb => absurd hb hi⟩
    rw [retire_pc, nextPc_eq_of_not_control hm]
    simp [BitVec.toNat_add, Instr.length]

/-! ### What each shared operation does to the flags and to memory -/

section

variable (s : State)

@[simp] theorem zn_c (p : Flags) (r : Byte) : (p.zn r).c = p.c := rfl
@[simp] theorem zn_i (p : Flags) (r : Byte) : (p.zn r).i = p.i := rfl
@[simp] theorem zn_d (p : Flags) (r : Byte) : (p.zn r).d = p.d := rfl
@[simp] theorem zn_b (p : Flags) (r : Byte) : (p.zn r).b = p.b := rfl
@[simp] theorem zn_v (p : Flags) (r : Byte) : (p.zn r).v = p.v := rfl

@[simp] theorem load_p (r : Reg) (o : Source) : (load r o s).p = s.p.zn (o.val s) := setRegZN_p s _ _
@[simp] theorem store_p (r : Reg) (f : AddrForm) : (store r f s).p = s.p := poke_p s _ _
@[simp] theorem moveReg_p (r q : Reg) : (moveReg r q s).p = s.p.zn (s.reg q) := setRegZN_p s _ _
@[simp] theorem txs_p : (txs s).p = s.p := setReg_p s _ _
@[simp] theorem addToA_p (m : Byte) :
    (addToA m s).p = Flags.zn
      { s.p with
        v := overflowFromAddition s.a m (carryFromAddition s.a m s.p.c).1
        c := (carryFromAddition s.a m s.p.c).2 }
      (carryFromAddition s.a m s.p.c).1 := rfl
@[simp] theorem logic_p (op : Byte → Byte → Byte) (o : Source) : (logic op o s).p = s.p.zn (op s.a (o.val s)) :=
  setRegZN_p s _ _
@[simp] theorem compare_p (r : Reg) (o : Source) :
    (compare r o s).p = Flags.zn { s.p with c := decide ((o.val s).toNat ≤ (s.reg r).toNat) } (s.reg r - o.val s) := rfl
@[simp] theorem bitTest_p (o : Source) :
    (bitTest o s).p =
      { s.p with z := decide (s.a &&& o.val s = 0), n := (o.val s).getLsbD 7, v := (o.val s).getLsbD 6 } := rfl
@[simp] theorem stepMem_p (op : Byte → Byte) (f : AddrForm) :
    (stepMem op f s).p = s.p.zn (op (s.peek (ea f s))) := rfl
@[simp] theorem stepReg_p (op : Byte → Byte) (r : Reg) : (stepReg op r s).p = s.p.zn (op (s.reg r)) := setRegZN_p s _ _
@[simp] theorem shift_p (op : Byte → Byte × Bool) (pl : Place) :
    (shift op pl s).p = Flags.zn { s.p with c := (op (pl.val s)).2 } (op (pl.val s)).1 := rfl
@[simp] theorem pushWord_p (w : Addr) : (pushWord w s).p = s.p := rfl
@[simp] theorem pullWord_p : (pullWord s).p = s.p := rfl
@[simp] theorem pla_p : (pla s).p = s.p.zn s.pulled := rfl
@[simp] theorem plp_p : (plp s).p = Flags.unpack s.pulled := rfl

@[simp] theorem load_mem (r : Reg) (o : Source) : (load r o s).mem = s.mem := setRegZN_mem s _ _
@[simp] theorem moveReg_mem (r q : Reg) : (moveReg r q s).mem = s.mem := setRegZN_mem s _ _
@[simp] theorem txs_mem : (txs s).mem = s.mem := rfl
@[simp] theorem addToA_mem (m : Byte) : (addToA m s).mem = s.mem := rfl
@[simp] theorem logic_mem (op : Byte → Byte → Byte) (o : Source) : (logic op o s).mem = s.mem := setRegZN_mem s _ _
@[simp] theorem compare_mem (r : Reg) (o : Source) : (compare r o s).mem = s.mem := rfl
@[simp] theorem bitTest_mem (o : Source) : (bitTest o s).mem = s.mem := rfl
@[simp] theorem stepReg_mem (op : Byte → Byte) (r : Reg) : (stepReg op r s).mem = s.mem := setRegZN_mem s _ _
@[simp] theorem shift_acc_mem (op : Byte → Byte × Bool) : (shift op .acc s).mem = s.mem := rfl
@[simp] theorem pullWord_mem : (pullWord s).mem = s.mem := rfl
@[simp] theorem pla_mem : (pla s).mem = s.mem := rfl
@[simp] theorem plp_mem : (plp s).mem = s.mem := rfl

end

/-- Settles O58: each mnemonic is a listed writer of a flag, or its handler leaves the flag; BRK leaves them all. -/
theorem eachFlagHasItsWriters : Obligations.EachFlagHasItsWriters := by
  intro i s t h
  rcases exec_next_cases h with ⟨rfl, rfl⟩ | ⟨-, rfl⟩
  · simp [halt]
  · simp only [retire_p]
    cases i.mnemonic <;> simp [handlerOf, adc, sbc]

/-! ### The registers each shared operation leaves -/

theorem sameRegsBut_trans {rs qs : List Reg} {s t u : State} (h : SameRegsBut rs s t) (h' : SameRegsBut qs t u) :
    SameRegsBut (rs ++ qs) s u := fun r hr => by
  rw [List.mem_append, not_or] at hr
  exact (h' r hr.2).trans (h r hr.1)

theorem sameRegsBut_mono {rs qs : List Reg} {s t : State} (h : SameRegsBut rs s t) (hsub : rs ⊆ qs) :
    SameRegsBut qs s t := fun r hr => h r (mt (@hsub r) hr)

section

variable (s : State)

theorem sameRegsBut_setReg (r : Reg) (v : Byte) : SameRegsBut [r] s (s.setReg r v) := fun q hq =>
  reg_setReg_other s r q v (mt List.mem_singleton.2 hq)

theorem sameRegsBut_setFlags (q : Flags) : SameRegsBut [] s (s.setFlags q) := fun _ _ => setFlags_reg s q _

theorem sameRegsBut_poke (k : Addr) (v : Byte) : SameRegsBut [] s (s.poke k v) := fun _ _ => poke_reg s k v _

theorem sameRegsBut_setRegZN (r : Reg) (v : Byte) : SameRegsBut [r] s (s.setRegZN r v) :=
  sameRegsBut_trans (sameRegsBut_setReg s r v) (sameRegsBut_setFlags _ _)

theorem sameRegsBut_push (v : Byte) : SameRegsBut [.SP] s (s.push v) :=
  sameRegsBut_trans (sameRegsBut_poke s _ _) (sameRegsBut_setReg _ _ _)

theorem sameRegsBut_pull : SameRegsBut [.SP] s s.pull := sameRegsBut_setReg s _ _

theorem sameRegsBut_load (r : Reg) (o : Source) : SameRegsBut [r] s (load r o s) := sameRegsBut_setRegZN s _ _
theorem sameRegsBut_store (r : Reg) (f : AddrForm) : SameRegsBut [] s (store r f s) := sameRegsBut_poke s _ _
theorem sameRegsBut_moveReg (r q : Reg) : SameRegsBut [r] s (moveReg r q s) := sameRegsBut_setRegZN s _ _
theorem sameRegsBut_txs : SameRegsBut [.SP] s (txs s) := sameRegsBut_setReg s _ _
theorem sameRegsBut_addToA (m : Byte) : SameRegsBut [.A] s (addToA m s) :=
  sameRegsBut_trans (sameRegsBut_setReg s _ _) (sameRegsBut_setFlags _ _)
theorem sameRegsBut_logic (op : Byte → Byte → Byte) (o : Source) : SameRegsBut [.A] s (logic op o s) :=
  sameRegsBut_setRegZN s _ _
theorem sameRegsBut_compare (r : Reg) (o : Source) : SameRegsBut [] s (compare r o s) := sameRegsBut_setFlags s _
theorem sameRegsBut_bitTest (o : Source) : SameRegsBut [] s (bitTest o s) := sameRegsBut_setFlags s _
theorem sameRegsBut_stepMem (op : Byte → Byte) (f : AddrForm) : SameRegsBut [] s (stepMem op f s) :=
  sameRegsBut_trans (sameRegsBut_poke s _ _) (sameRegsBut_setFlags _ _)
theorem sameRegsBut_stepReg (op : Byte → Byte) (r : Reg) : SameRegsBut [r] s (stepReg op r s) :=
  sameRegsBut_setRegZN s _ _
theorem sameRegsBut_pla : SameRegsBut [.SP, .A] s (pla s) :=
  sameRegsBut_trans (sameRegsBut_pull s) (sameRegsBut_setRegZN _ _ _)
theorem sameRegsBut_plp : SameRegsBut [.SP] s (plp s) :=
  sameRegsBut_trans (sameRegsBut_pull s) (sameRegsBut_setFlags _ _)
theorem sameRegsBut_pushWord (w : Addr) : SameRegsBut [.SP] s (pushWord w s) :=
  sameRegsBut_mono (sameRegsBut_trans (sameRegsBut_push s _) (sameRegsBut_push _ _)) (by simp)
theorem sameRegsBut_pullWord : SameRegsBut [.SP] s (pullWord s) :=
  sameRegsBut_mono (sameRegsBut_trans (sameRegsBut_pull s) (sameRegsBut_pull _)) (by simp)

/-- The registers that writing to a place changes (R128). -/
def placeRegs : Place → List Reg
  | .acc => [.A]
  | .mem _ => []

theorem sameRegsBut_shift (op : Byte → Byte × Bool) (pl : Place) : SameRegsBut (placeRegs pl) s (shift op pl s) := by
  cases pl
  · exact sameRegsBut_trans (sameRegsBut_setReg s _ _) (sameRegsBut_setFlags _ _)
  · exact sameRegsBut_trans (sameRegsBut_poke s _ _) (sameRegsBut_setFlags _ _)

@[simp] theorem mem_placeRegs_operandPlace {m : Mode} {o : OperandBytes} {r : Reg} :
    r ∈ placeRegs (operandPlace m o) ↔ r = .A ∧ m = .acc := by
  cases m <;> simp [operandPlace, placeRegs]

/-- The registers a mnemonic's handler writes, the rows of 10_state.md R30 read the other way. -/
def regsWritten (mn : Mnemonic) (m : Mode) (o : OperandBytes) : List Reg :=
  match mn with
  | .LDA | .TXA | .TYA | .ADC | .SBC | .AND | .ORA | .EOR => [.A]
  | .LDX | .TAX | .TSX | .INX | .DEX => [.X]
  | .LDY | .TAY | .INY | .DEY => [.Y]
  | .TXS | .PHA | .PHP | .PLP | .JSR | .RTS | .RTI => [.SP]
  | .PLA => [.SP, .A]
  | .ASL | .LSR | .ROL | .ROR => placeRegs (operandPlace m o)
  | _ => []

theorem sameRegsBut_handlerOf (mn : Mnemonic) (m : Mode) (o : OperandBytes) :
    SameRegsBut (regsWritten mn m o) s (handlerOf mn m o s) := by
  cases mn
  case LDA | LDX | LDY => exact sameRegsBut_load s _ _
  case STA | STX | STY => exact sameRegsBut_store s _ _
  case TAX | TAY | TXA | TYA | TSX => exact sameRegsBut_moveReg s _ _
  case TXS => exact sameRegsBut_txs s
  case ADC | SBC => exact sameRegsBut_addToA s _
  case AND | ORA | EOR => exact sameRegsBut_logic s _ _
  case CMP | CPX | CPY => exact sameRegsBut_compare s _ _
  case BIT => exact sameRegsBut_bitTest s _
  case INC | DEC => exact sameRegsBut_stepMem s _ _
  case INX | INY | DEX | DEY => exact sameRegsBut_stepReg s _ _
  case ASL | LSR | ROL | ROR => exact sameRegsBut_shift s _ _
  case JSR => exact sameRegsBut_pushWord s _
  case RTS => exact sameRegsBut_pullWord s
  case RTI =>
    exact sameRegsBut_mono (sameRegsBut_trans (sameRegsBut_plp s) (sameRegsBut_pullWord _)) (by simp [regsWritten])
  case PHA | PHP => exact sameRegsBut_push s _
  case PLA => exact sameRegsBut_pla s
  case PLP => exact sameRegsBut_plp s
  case CLC | SEC | CLI | SEI | CLD | SED | CLV => exact sameRegsBut_setFlags s _
  case JMP | BCC | BCS | BEQ | BNE | BMI | BPL | BVC | BVS | NOP | BRK => exact fun _ _ => rfl

end

theorem mem_regsWritten_of_changed {mn : Mnemonic} {m : Mode} {o : OperandBytes} {s : State} {r : Reg}
    (h : (handlerOf mn m o s).reg r ≠ s.reg r) : r ∈ regsWritten mn m o := by
  by_contra hr
  exact h (sameRegsBut_handlerOf s mn m o r hr)

/-- An instruction's mode is one its mnemonic admits (30_encoding.md R88, R90). -/
theorem mode_mem_modes (i : Instr) : i.mode ∈ i.mnemonic.modes := by
  have h := instrOf_isSome i.mnemonic i.mode (i.operand.bytes.getD 0 0) (i.operand.bytes.getD 1 0)
  rw [instrOf_parts] at h
  exact of_decide_eq_true h.symm

/-- Settles O59: a changed register is one the handler writes, and memory is changed by the handlers that store; BRK changes
neither. -/
theorem eachRegisterHasItsWriters : Obligations.EachRegisterHasItsWriters := by
  intro i s t h
  rcases exec_next_cases h with ⟨rfl, rfl⟩ | ⟨-, rfl⟩
  · simp [halt]
  · simp only [retire_a, retire_x, retire_y, retire_sp, retire_mem]
    have hadm := mode_mem_modes i
    generalize i.mnemonic = mn, i.mode = m, i.operand = o at hadm ⊢
    refine ⟨fun hne => ?_, fun hne => ?_, fun hne => ?_, fun hne => ?_, fun hne => ?_⟩
    · have hw := mem_regsWritten_of_changed (r := .A) hne
      cases mn <;> simp_all [regsWritten]
    · have hw := mem_regsWritten_of_changed (r := .X) hne
      cases mn <;> simp_all [regsWritten]
    · have hw := mem_regsWritten_of_changed (r := .Y) hne
      cases mn <;> simp_all [regsWritten]
    · have hw := mem_regsWritten_of_changed (r := .SP) hne
      cases mn <;> simp_all [regsWritten]
    · cases mn
      case STA | STX | STY | PHA | PHP | JSR => exact .inl (by decide)
      case INC | DEC =>
        refine .inr ⟨by decide, ?_⟩
        rintro rfl
        exact absurd hadm (by decide)
      case ASL | LSR | ROL | ROR =>
        refine .inr ⟨by decide, ?_⟩
        rintro rfl
        exact absurd (shift_acc_mem s _) hne
      all_goals exact absurd (by simp [handlerOf, adc, sbc]) hne

/-! ### The inert flags (10_state.md R29) -/

section

variable (s : State) (i d b : Bool)

@[simp] theorem reg_withInert (r : Reg) : (withInert s i d b).reg r = s.reg r := by cases r <;> rfl

@[simp] theorem ea_withInert (f : AddrForm) : ea f (withInert s i d b) = ea f s := by cases f <;> rfl

@[simp] theorem sourceVal_withInert (o : Source) : o.val (withInert s i d b) = o.val s := by
  cases o
  · rfl
  · exact congrArg s.peek (ea_withInert s i d b _)

@[simp] theorem placeVal_withInert (pl : Place) : pl.val (withInert s i d b) = pl.val s := by
  cases pl
  · rfl
  · exact congrArg s.peek (ea_withInert s i d b _)

theorem poke_withInert (k : Addr) (v : Byte) : (withInert s i d b).poke k v = withInert (s.poke k v) i d b := rfl

theorem setReg_withInert (r : Reg) (v : Byte) :
    (withInert s i d b).setReg r v = withInert (s.setReg r v) i d b := by cases r <;> rfl

theorem setRegZN_withInert (r : Reg) (v : Byte) :
    (withInert s i d b).setRegZN r v = withInert (s.setRegZN r v) i d b := by cases r <;> rfl

theorem put_withInert (pl : Place) (r : Byte) :
    pl.put r (withInert s i d b) = withInert (pl.put r s) i d b := by
  cases pl
  · exact setReg_withInert s i d b .A r
  · simp only [Place.put, ea_withInert, poke_withInert]

theorem load_withInert (r : Reg) (o : Source) : load r o (withInert s i d b) = withInert (load r o s) i d b := by
  simp only [load, sourceVal_withInert, setRegZN_withInert]

theorem store_withInert (r : Reg) (f : AddrForm) : store r f (withInert s i d b) = withInert (store r f s) i d b := by
  simp only [store, ea_withInert, reg_withInert, poke_withInert]

theorem moveReg_withInert (r q : Reg) : moveReg r q (withInert s i d b) = withInert (moveReg r q s) i d b := by
  simp only [moveReg, reg_withInert, setRegZN_withInert]

theorem addToA_withInert (m : Byte) : addToA m (withInert s i d b) = withInert (addToA m s) i d b := rfl

theorem adc_withInert (o : Source) : adc o (withInert s i d b) = withInert (adc o s) i d b := by
  rw [adc, sourceVal_withInert, addToA_withInert, adc]

theorem sbc_withInert (o : Source) : sbc o (withInert s i d b) = withInert (sbc o s) i d b := by
  rw [sbc, sourceVal_withInert, addToA_withInert, sbc]

theorem logic_withInert (op : Byte → Byte → Byte) (o : Source) :
    logic op o (withInert s i d b) = withInert (logic op o s) i d b := by
  rw [logic, sourceVal_withInert, setRegZN_withInert]; rfl

theorem compare_withInert (r : Reg) (o : Source) :
    compare r o (withInert s i d b) = withInert (compare r o s) i d b := by
  rw [compare, sourceVal_withInert, reg_withInert]; rfl

theorem bitTest_withInert (o : Source) : bitTest o (withInert s i d b) = withInert (bitTest o s) i d b := by
  rw [bitTest, sourceVal_withInert]; rfl

theorem stepMem_withInert (op : Byte → Byte) (f : AddrForm) :
    stepMem op f (withInert s i d b) = withInert (stepMem op f s) i d b := by
  rw [stepMem, ea_withInert]; rfl

theorem stepReg_withInert (op : Byte → Byte) (r : Reg) :
    stepReg op r (withInert s i d b) = withInert (stepReg op r s) i d b := by
  rw [stepReg, reg_withInert, setRegZN_withInert]; rfl

theorem shift_withInert (op : Byte → Byte × Bool) (pl : Place) :
    shift op pl (withInert s i d b) = withInert (shift op pl s) i d b := by
  rw [shift, placeVal_withInert, put_withInert]; rfl

/-- Whatever the inert flags are, a handler that neither writes nor pushes them does the same and leaves them. -/
theorem handlerOf_withInert {mn : Mnemonic} (h : mn ∉ [Mnemonic.CLI, .SEI, .CLD, .SED, .PLP, .RTI, .PHP])
    (m : Mode) (o : OperandBytes) : handlerOf mn m o (withInert s i d b) = withInert (handlerOf mn m o s) i d b := by
  cases mn
  case CLI | SEI | CLD | SED | PLP | RTI | PHP => exact absurd (by decide) h
  case LDA | LDX | LDY => exact load_withInert s i d b _ _
  case STA | STX | STY => exact store_withInert s i d b _ _
  case TAX | TAY | TXA | TYA | TSX => exact moveReg_withInert s i d b _ _
  case ADC => exact adc_withInert s i d b _
  case SBC => exact sbc_withInert s i d b _
  case AND | ORA | EOR => exact logic_withInert s i d b _ _
  case CMP | CPX | CPY => exact compare_withInert s i d b _ _
  case BIT => exact bitTest_withInert s i d b _
  case INC => exact stepMem_withInert s i d b (· + 1) _
  case DEC => exact stepMem_withInert s i d b (· - 1) _
  case INX | INY => exact stepReg_withInert s i d b (· + 1) _
  case DEX | DEY => exact stepReg_withInert s i d b (· - 1) _
  case ASL | LSR | ROL | ROR => exact shift_withInert s i d b _ _
  all_goals rfl

/-- Where the next instruction is does not depend on the inert flags. -/
theorem nextPc_withInert (mn : Mnemonic) (m : Mode) (o : OperandBytes) :
    nextPc mn m o (withInert s i d b) = nextPc mn m o s := by
  cases mn
  case JMP | JSR => exact ea_withInert s i d b _
  case BCC | BCS | BEQ | BNE | BMI | BPL | BVC | BVS =>
    simp only [nextPc, branchTarget, ea_withInert]; rfl
  all_goals rfl

/-- Whatever the inert flags were, any handler but PHP's leaves states that differ in the inert flags alone. -/
theorem exists_handlerOf_withInert {mn : Mnemonic} (h : mn ≠ .PHP) (m : Mode) (o : OperandBytes) :
    ∃ i' d' b', handlerOf mn m o (withInert s i d b) = withInert (handlerOf mn m o s) i' d' b' := by
  cases mn
  case PHP => exact absurd rfl h
  case CLI => exact ⟨false, d, b, rfl⟩
  case SEI => exact ⟨true, d, b, rfl⟩
  case CLD => exact ⟨i, false, b, rfl⟩
  case SED => exact ⟨i, true, b, rfl⟩
  case PLP | RTI => exact ⟨(plp s).p.i, (plp s).p.d, (plp s).p.b, rfl⟩
  all_goals exact ⟨i, d, b, handlerOf_withInert s i d b (by decide) m o⟩

end

theorem php_of_mnemonic {j : Instr} (h : j.mnemonic = .PHP) : j = .php := by
  cases j
  case php => rfl
  all_goals cases h

theorem stackAddr_eq_stackByte (sp : Byte) : stackAddr sp = stackByte sp.toNat := by
  apply BitVec.eq_of_toNat_eq
  have := sp.isLt
  simp only [stackAddr, stackByte, zext16, BitVec.toNat_add, BitVec.toNat_setWidth, BitVec.toNat_ofNat,
    BitVec.reduceToNat]
  omega

/-- What the Snapshots of a retired instruction report alike, the stream does. -/
theorem retire_events_withoutInert {u u' : State} (npc : Addr) (hev : u'.events = u.events)
    (hsnap : withoutInert (.snapshot (u'.setPc npc).snapshot) = withoutInert (.snapshot (u.setPc npc).snapshot)) :
    (retire npc u').events.map withoutInert = (retire npc u).events.map withoutInert := by
  simp only [retire_events, List.map_append, List.map_cons, List.map_nil, hev, hsnap]

/-- Settles O60: BRK and all handlers but PHP's leave states that differ in the inert flags alone; PHP's pushes a byte
that differs, at the one address excepted. -/
theorem inertFlagsInfluenceNothing : Obligations.InertFlagsInfluenceNothing := by
  intro j s t i d b h
  rcases exec_next_cases h with ⟨rfl, rfl⟩ | ⟨hj, rfl⟩
  · exact ⟨_, exec_brk _, rfl, rfl, rfl, rfl, rfl, rfl, rfl, rfl, rfl, rfl, rfl, rfl, rfl, fun _ => rfl,
      fun _ _ _ => rfl⟩
  · refine ⟨_, exec_eq_retire hj _, ?_⟩
    rw [nextPc_withInert]
    by_cases hphp : j = .php
    · subst hphp
      refine ⟨rfl, rfl, rfl, rfl, rfl, rfl, rfl, rfl, rfl, rfl, rfl, rfl, retire_events_withoutInert _ rfl rfl,
        fun hne => absurd rfl hne, fun hw k hk => ?_⟩
      rw [← stackAddr_eq_stackByte] at hk
      exact ((peek_push hw _ k).trans (if_neg hk)).trans ((peek_push hw _ k).trans (if_neg hk)).symm
    · obtain ⟨i', d', b', hu⟩ :=
        exists_handlerOf_withInert s i d b (mt php_of_mnemonic hphp) j.mode j.operand
      rw [hu]
      exact ⟨rfl, rfl, rfl, rfl, rfl, rfl, rfl, rfl, rfl, rfl, rfl, rfl, retire_events_withoutInert _ rfl rfl,
        fun _ => rfl, fun _ _ _ => rfl⟩

end Sys2Proof.Machine

/-! ### The Memory Bank (20_memory.md R51 to R54) -/

namespace Sys2Proof.Machine

theorem readByte_mod (m : Memory) (k : Nat) : m.readByte k = m.readByte (k % Config.memorySize) := by
  rw [Memory.readByte, Memory.readByte, Nat.mod_mod]

/-- A read after a write, on numbers: the stored value is masked (R52). -/
theorem toNat_readByte_writeByte {m : Memory} (hw : m.wf) (k v j : Nat) :
    ((m.writeByte k v).readByte j).toNat =
      if j % Config.memorySize = k % Config.memorySize then v % 256 else (m.readByte j).toNat := by
  rw [readByte_writeByte_key hw, apply_ite BitVec.toNat, BitVec.toNat_ofNat]

theorem toNat_readWord (m : Memory) (k : Nat) :
    (m.readWord k).toNat = (m.readByte k).toNat + 256 * (m.readByte (k + 1)).toNat := toNat_join _ _

/-- Settles O28: the word at the top takes its high byte from address 0, which is where the address after the top
wraps to. -/
theorem memoryReadsWhatWasWritten : Obligations.MemoryReadsWhatWasWritten := by
  intro m hw
  have htop : m.readByte (0xFFFF + 1) = m.readByte 0x0000 := readByte_mod m (0xFFFF + 1)
  exact ⟨readByte_mod m, toNat_readByte_writeByte hw, toNat_readWord m, htop ▸ toNat_readWord m 0xFFFF⟩

/-- A canonical list names no key past the top of memory. -/
theorem get_of_memorySize_le {m : Memory} (hw : m.wf) {k : Nat} (hk : Config.memorySize ≤ k) :
    m.get k = Config.unlistedByte := by
  induction m with
  | nil => rfl
  | cons c m ih =>
    obtain ⟨-, ⟨hc, -⟩, hm⟩ := wf_cons.1 hw
    have hck : c.1 < k := Nat.lt_of_lt_of_le hc hk
    rw [Memory.get, if_neg (Nat.lt_asymm hck), if_neg (Nat.ne_of_gt hck), ih hm]

theorem readByte_of_lt (m : Memory) {k : Nat} (hk : k < Config.memorySize) : m.readByte k = m.get k := by
  rw [Memory.readByte, Nat.mod_eq_of_lt hk]

/-- Canonical memories that read alike at every address are the same list. -/
theorem wf_ext_readByte {m m' : Memory} (hw : m.wf) (hw' : m'.wf)
    (h : ∀ k, k < Config.memorySize → m.readByte k = m'.readByte k) : m = m' := by
  refine wf_ext hw hw' fun k => ?_
  by_cases hk : k < Config.memorySize
  · rw [← readByte_of_lt m hk, ← readByte_of_lt m' hk, h k hk]
  · rw [get_of_memorySize_le hw (Nat.le_of_not_lt hk), get_of_memorySize_le hw' (Nat.le_of_not_lt hk)]

/-- Settles O29: a canonical list is determined by its reads below the top, for it names nothing above. -/
theorem canonicalMemoryIsItsBytes : Obligations.CanonicalMemoryIsItsBytes :=
  ⟨fun _ k v hw => wf_writeByte hw k v, fun _ _ => wf_ext_readByte⟩

theorem loadBlock_eq_none_iff {m : Memory} {wrap : Bool} {bytes : List Nat} {start : Addr} :
    m.loadBlock wrap bytes start = none ↔ wrap = false ∧ start.toNat + bytes.length > Config.memorySize := by
  rw [Memory.loadBlock, ite_eq_left_iff]
  simp

/-- A load that does not fail is the copy loop. -/
theorem loadBlock_some {m m' : Memory} {wrap : Bool} {bytes : List Nat} {start : Addr}
    (h : m.loadBlock wrap bytes start = some m') : m' = m.copyBlock bytes start.toNat := by
  unfold Memory.loadBlock at h
  split at h
  · cases h
  · exact (Option.some.inj h).symm

/-- The copy loop leaves the addresses outside the block as they were. -/
theorem readByte_copyBlock_outside {m : Memory} (hw : m.wf) {bytes : List Nat} {start k : Nat}
    (h : ∀ j, j < bytes.length → (start + j) % Config.memorySize ≠ k % Config.memorySize) :
    (m.copyBlock bytes start).readByte k = m.readByte k := by
  induction bytes generalizing m start with
  | nil => rfl
  | cons v vs ih =>
    have hfirst : k % Config.memorySize ≠ start % Config.memorySize := (h 0 (Nat.zero_lt_succ _)).symm
    have hrest : ∀ j, j < vs.length → (start + 1 + j) % Config.memorySize ≠ k % Config.memorySize := fun j hj =>
      Nat.succ_add_eq_add_succ start j ▸ h (j + 1) (Nat.succ_lt_succ hj)
    rw [Memory.copyBlock, ih (wf_writeByte hw start v) hrest, readByte_writeByte_key hw, if_neg hfirst]

/-- The copy loop leaves a byte at its address, masked, unless a later one falls on the same address. -/
theorem readByte_copyBlock_inside {m : Memory} (hw : m.wf) {bytes : List Nat} {start i : Nat} (hi : i < bytes.length)
    (h : ∀ j, i < j → j < bytes.length → (start + j) % Config.memorySize ≠ (start + i) % Config.memorySize) :
    (m.copyBlock bytes start).readByte (start + i) = BitVec.ofNat 8 bytes[i] := by
  induction bytes generalizing m start i with
  | nil => exact absurd hi (Nat.not_lt_zero i)
  | cons v vs ih =>
    have hw' := wf_writeByte hw start v
    rw [Memory.copyBlock]
    have hshift : ∀ j, start + 1 + j = start + (j + 1) := Nat.succ_add_eq_add_succ start
    cases i with
    | zero =>
      have hrest : ∀ j, j < vs.length → (start + 1 + j) % Config.memorySize ≠ start % Config.memorySize := fun j hj =>
        hshift j ▸ h (j + 1) (Nat.zero_lt_succ j) (Nat.succ_lt_succ hj)
      rw [Nat.add_zero start, readByte_copyBlock_outside hw' hrest, readByte_writeByte_key hw, if_pos rfl,
        List.getElem_cons_zero]
    | succ i =>
      have hrest : ∀ j, i < j → j < vs.length →
          (start + 1 + j) % Config.memorySize ≠ (start + 1 + i) % Config.memorySize := fun j hij hj =>
        hshift j ▸ hshift i ▸ h (j + 1) (Nat.succ_lt_succ hij) (Nat.succ_lt_succ hj)
      rw [← hshift i, ih hw' (Nat.lt_of_succ_lt_succ hi) hrest, List.getElem_cons_succ]

/-- Settles O25: a load that does not fail is the copy loop, whose writes are masked (R52). -/
theorem loadBlockCopiesTheBytes : Obligations.LoadBlockCopiesTheBytes := by
  intro m wrap bytes start hw
  refine ⟨loadBlock_eq_none_iff, fun m' h => ?_⟩
  obtain rfl := loadBlock_some h
  refine ⟨fun i hi hlast => ?_, fun k hout => readByte_copyBlock_outside hw hout⟩
  rw [readByte_copyBlock_inside hw hi hlast, BitVec.toNat_ofNat]

end Sys2Proof.Machine

namespace Sys2Proof

/-! ### Encoding: the decoder and the table (30_encoding.md R80 to R94) -/

/-- R90: a well-formed entry has a mode its mnemonic admits, and that mode's length. -/
theorem entry_wf_iff (e : Entry) :
    e.wf = true ↔ ∃ m, e.mode = some m ∧ e.length = m.len ∧ m ∈ e.mnemonic.modes := by
  obtain ⟨op, mn, _ | m, len⟩ := e <;> simp [Entry.wf]

/-- An instruction is determined by its mnemonic, its mode and its operand bytes. -/
theorem instr_ext {i j : Instr} (hmn : i.mnemonic = j.mnemonic) (hm : i.mode = j.mode)
    (ho : i.operand.bytes = j.operand.bytes) : i = j := by
  have hi := instrOf_parts i 0
  rw [hmn, hm, ho, instrOf_parts j 0] at hi
  exact (Option.some.inj hi).symm

theorem instrOf_eq_some_iff {mn : Mnemonic} {m : Mode} {b1 b2 : Byte} {i : Instr} :
    instrOf mn m b1 b2 = some i ↔
      i.mnemonic = mn ∧ i.mode = m ∧ i.operand.bytes = [b1, b2].take (m.len - 1) := by
  constructor
  · intro h
    obtain ⟨hmn, hm⟩ := parts_of_instrOf h
    exact ⟨hmn, hm, operand_of_instrOf h⟩
  · rintro ⟨rfl, rfl, ho⟩
    have hsome : (instrOf i.mnemonic i.mode b1 b2).isSome := by
      rw [instrOf_isSome]; exact decide_eq_true (Machine.mode_mem_modes i)
    obtain ⟨j, hj⟩ := Option.isSome_iff_exists.1 hsome
    obtain ⟨hmn, hm⟩ := parts_of_instrOf hj
    rw [hj, instr_ext hmn hm ((operand_of_instrOf hj).trans ho.symm)]

/-- R81, R82: a byte decodes to an instruction exactly when its entry has the instruction's mnemonic, mode and length,
and the bytes after it begin with the instruction's operand bytes. The table need not be well formed. -/
theorem decode3_eq_ok_iff {tbl : OpTable} {op b1 b2 : Byte} {i : Instr} :
    decode3 tbl op b1 b2 = .ok i ↔
      tbl.lookup op = some ⟨op, i.mnemonic, some i.mode, i.length⟩ ∧
        i.operand.bytes = [b1, b2].take (i.length - 1) := by
  constructor
  · intro h
    rcases decode3_cases tbl op b1 b2 with ⟨-, hd⟩ | ⟨e, -, -, hd⟩ | ⟨e, j, hl, hw, hj, hd⟩
    · cases hd.symm.trans h
    · cases hd.symm.trans h
    · cases hd.symm.trans h
      obtain ⟨m, hm, hlen, -⟩ := (entry_wf_iff e).1 hw
      rw [Entry.instr, hm] at hj
      obtain ⟨hmn, rfl, ho⟩ := instrOf_eq_some_iff.1 hj
      obtain ⟨-, rfl⟩ := lookup_mem hl
      refine ⟨hl.trans (congrArg some ?_), ho⟩
      rw [hmn, ← hm, Instr.length, ← hlen]
  · rintro ⟨hl, ho⟩
    have hw := (entry_wf_iff ⟨op, i.mnemonic, some i.mode, i.length⟩).2
      ⟨i.mode, rfl, rfl, Machine.mode_mem_modes i⟩
    have hi : Entry.instr ⟨op, i.mnemonic, some i.mode, i.length⟩ b1 b2 = some i :=
      instrOf_eq_some_iff.2 ⟨rfl, rfl, ho⟩
    simp only [decode3, hl, hw, hi, if_true]

theorem length_le_three (i : Instr) : i.length ≤ 3 := by
  rw [Instr.length]
  cases i.mode <;> decide

/-- The two bytes the decoder is given are the first of those that follow, where an operand has them. -/
theorem take_getD_two {bs : List Byte} {k : Nat} (hk : k ≤ 2) (hlen : k ≤ bs.length) :
    [bs.getD 0 0, bs.getD 1 0].take k = bs.take k := by
  match k, bs with
  | 0, _ => rfl
  | 1, _ :: _ => rfl
  | 2, _ :: _ :: _ => rfl

/-- What decoding a sequence takes: its first bytes decode, it is long enough, and the rest is what is left of it. -/
theorem decode_cons_eq_ok_iff {tbl : OpTable} {op : Byte} {more rest : List Byte} {i : Instr} :
    decode tbl (op :: more) = .ok (i, rest) ↔
      decode3 tbl op (more.getD 0 0) (more.getD 1 0) = .ok i ∧ i.length ≤ more.length + 1 ∧
        more.drop (i.length - 1) = rest := by
  rw [decode]
  cases decode3 tbl op (more.getD 0 0) (more.getD 1 0) with
  | error k => exact ⟨(nomatch ·), fun h => nomatch h.1⟩
  | ok j =>
    dsimp only
    split
    · rename_i hshort
      refine ⟨(nomatch ·), fun ⟨hj, hlen, _⟩ => ?_⟩
      cases hj
      omega
    · rename_i hlong
      simp only [Except.ok.injEq, Prod.mk.injEq]
      refine and_congr_right fun hj => ?_
      subst hj
      exact (and_iff_right (Nat.le_of_not_lt hlong)).symm

/-- R81, R82: under any table a sequence decodes to an instruction and a rest exactly when its first byte has the
instruction's entry and the bytes after it are the instruction's operand bytes and the rest. -/
theorem decode_eq_ok_iff {tbl : OpTable} {op : Byte} {more rest : List Byte} {i : Instr} :
    decode tbl (op :: more) = .ok (i, rest) ↔
      tbl.lookup op = some ⟨op, i.mnemonic, some i.mode, i.length⟩ ∧ more = i.operand.bytes ++ rest := by
  have hlen : i.length - 1 = i.operand.bytes.length := by rw [← length_operand_bytes i, Nat.add_sub_cancel]
  have hlen_le : i.length ≤ more.length + 1 ↔ i.operand.bytes.length ≤ more.length := by
    rw [← length_operand_bytes i, Nat.add_le_add_iff_right]
  have htwo : i.operand.bytes.length ≤ 2 := hlen ▸ Nat.sub_le_sub_right (length_le_three i) 1
  rw [decode_cons_eq_ok_iff, decode3_eq_ok_iff, and_assoc, hlen, hlen_le]
  refine and_congr_right fun _ => ⟨?_, ?_⟩
  · rintro ⟨hbytes, hle, rfl⟩
    rw [take_getD_two htwo hle] at hbytes
    exact (List.take_append_drop _ more).symm.trans (congrArg (· ++ _) hbytes.symm)
  · rintro rfl
    have hle : i.operand.bytes.length ≤ (i.operand.bytes ++ rest).length := by simp
    rw [take_getD_two htwo hle, List.take_left, List.drop_left]
    exact ⟨rfl, hle, rfl⟩

/-- Settles O4: `decode_eq_ok_iff`, where a lookup in a well-formed table is membership. -/
theorem decodingFollowsTheTable : Obligations.DecodingFollowsTheTable := fun _ hw =>
  ⟨fun _ _ _ hmem => decode_eq_ok_iff.2 ⟨lookup_of_mem hw hmem, rfl⟩, fun _ _ _ _ h =>
    (decode_eq_ok_iff.1 h).imp_left fun hl => (lookup_mem hl).1⟩

/-! ### Encoding: the round trips under `T151` (R88) -/

theorem decode_encode (i : Instr) (rest : List Byte) : decode T151 (encode i ++ rest) = .ok (i, rest) :=
  decode_eq_ok_iff.2 ⟨Laws.lookup_opcode i, rfl⟩

/-- Settles O2: `T151` has every instruction's entry at the byte the encoder gives it. -/
theorem decodeOfEncodeIsTheInstruction : Obligations.DecodeOfEncodeIsTheInstruction := fun i rest =>
  ⟨decode_encode i rest, length_operand_bytes i⟩

/-- No mnemonic has two opcode bytes for one mode (R88). -/
theorem T151_nodup_forms : (T151.map fun e => (e.mnemonic, e.mode)).Nodup := by decide +kernel

/-- Under `T151` an instruction's entry stands at the encoder's byte alone. -/
theorem eq_opcode_of_lookup {op : Byte} {i : Instr}
    (h : T151.lookup op = some ⟨op, i.mnemonic, some i.mode, i.length⟩) : op = i.opcode :=
  congrArg Entry.opcode
    (List.inj_on_of_nodup_map T151_nodup_forms (lookup_mem h).1 (lookup_mem (Laws.lookup_opcode i)).1 rfl)

/-- Settles O3: the first byte is the encoder's, since no form stands twice in `T151`; the others are the operand's. -/
theorem encodeOfDecodeIsTheBytes : Obligations.EncodeOfDecodeIsTheBytes := by
  intro bytes rest i h
  cases bytes with
  | nil => cases h
  | cons op more =>
    obtain ⟨hl, rfl⟩ := decode_eq_ok_iff.1 h
    rw [eq_opcode_of_lookup hl, encode, List.cons_append]

/-- Settles O1: ten sequences are encodings, and `0xFF` has no entry. -/
theorem writtenOutWordsDecode : Obligations.WrittenOutWordsDecode :=
  ⟨decode_encode .clc [], decode_encode .aslAcc [], decode_encode (.ldaImm 0x01) [], decode_encode (.ldaZp 0x10) [],
    decode_encode (.ldxZpy 0x10) [], decode_encode (.ldaAbx 0x1234) [], decode_encode (.jmpInd 0x1234) [],
    decode_encode (.bne 0xFB) [], decode_encode (.jsr 0xC000) [], decode_encode .brk [], rfl⟩

/-! ### Encoding: the unknown bytes (R94) -/

/-- R81: the entries are searched for the byte alone. -/
theorem lookup_eq_none_iff {tbl : OpTable} {op : Byte} : tbl.lookup op = none ↔ op ∉ tbl.map Entry.opcode := by
  simp [OpTable.lookup]

/-- R94's list against the table: of the 256 bytes each is in exactly one of the two. -/
theorem lookup_T151_eq_none_iff (op : Byte) : T151.lookup op = none ↔ op.toNat ∈ Stated.unknownBytes := by
  revert op
  decide +kernel

theorem lookup_T2_eq_none_iff (op : Byte) : T2.lookup op = none ↔ op ≠ 0x00 ∧ op ≠ 0xA9 := by
  rw [lookup_eq_none_iff]
  simp [T2, row]

theorem lookup_FF_of_admissible {tbl : OpTable} (h : tbl.admissible = true) : tbl.lookup 0xFF = none := by
  have hnot : tbl.all fun e => decide (e.opcode ≠ 0xFF) := (Bool.and_eq_true_iff.1 h).2
  rw [lookup_eq_none_iff, List.mem_map]
  rintro ⟨e, he, hop⟩
  exact of_decide_eq_true (List.all_eq_true.1 hnot e he) hop

theorem lookup_eq_none_iff_decode3 (tbl : OpTable) (op b1 b2 : Byte) :
    tbl.lookup op = none ↔ decode3 tbl op b1 b2 = .error .unknownOpcode := by
  rcases decode3_cases tbl op b1 b2 with ⟨hl, hd⟩ | ⟨e, hl, -, hd⟩ | ⟨e, i, hl, -, -, hd⟩ <;> simp [hl, hd]

end Sys2Proof

namespace Sys2Proof.Machine

open Stated

theorem stepRunning_of_rejected {tbl : OpTable} {s : State} {k : FaultKind} (h : fetchDecode tbl s = .error k) :
    stepRunning tbl s = .next (raiseFault k s) := by
  rw [stepRunning, h]

/-- R241: an engine that executes a step does so as a running one. -/
theorem stepWith_of_executes {s : State} (h : Executes s) (tbl : OpTable) :
    stepWith tbl s = stepRunning tbl { s with engine := .running } := by
  rcases h with he | ⟨he, hr⟩
  · have hs : { s with engine := .running } = s := he ▸ rfl
    rw [hs, stepWith, he]
  · rw [stepWith, he]
    exact if_pos hr

/-- R245, R246: a rejected byte faults, whatever the reason. -/
theorem stepWith_of_rejected {tbl : OpTable} {s : State} {k : FaultKind} (hx : Executes s)
    (h : fetchDecode tbl s = .error k) :
    stepWith tbl s = .next (raiseFault k { s with engine := .running }) :=
  (stepWith_of_executes hx tbl).trans (stepRunning_of_rejected h)

/-- Settles O5: the lists are compared with the tables, and a byte without an entry is rejected, which is a fault. -/
theorem unknownBytesAreThoseListed : Obligations.UnknownBytesAreThoseListed := by
  refine ⟨lookup_T151_eq_none_iff, lookup_T2_eq_none_iff, fun _ => lookup_FF_of_admissible,
    lookup_eq_none_iff_decode3, fun tbl s hx hl => ?_⟩
  have hrej : fetchDecode tbl s = .error .unknownOpcode := (lookup_eq_none_iff_decode3 tbl _ _ _).1 hl
  exact ⟨_, stepWith_of_rejected hx hrej, rfl, rfl, ⟨rfl, rfl, rfl, rfl, rfl, rfl⟩, rfl⟩

/-! ### Effective addresses (40_flags_addressing_step.md R119 to R129) -/

@[simp] theorem toNat_zext16 (b : Byte) : (zext16 b).toNat = b.toNat :=
  BitVec.toNat_setWidth_of_le (by decide)

theorem toInt_eq_signed (b : Byte) : b.toInt = signed b := by
  rw [BitVec.toInt_eq_toNat_cond, signed]
  split <;> split <;> omega

theorem toInt_sext16 (b : Byte) : (sext16 b).toInt = signed b := by
  rw [sext16, BitVec.toInt_signExtend_of_le (by decide), toInt_eq_signed]

/-- A word read at an address, on numbers; the address of the high byte is not wrapped, `readByte` does that (R53). -/
theorem toNat_peekWord (s : State) (k : Addr) :
    (s.peekWord k).toNat = (s.mem.readByte k.toNat).toNat + 256 * (s.mem.readByte (k.toNat + 1)).toNat :=
  toNat_readWord s.mem k.toNat

section

variable (s : State) (b1 : Byte) (a : Addr)

theorem toNat_ea_zp : (ea (.zp b1) s).toNat = b1.toNat := toNat_zext16 b1

theorem toNat_ea_zpx : (ea (.zpx b1) s).toNat = (b1.toNat + s.x.toNat) % 256 := by
  rw [ea, toNat_zext16, BitVec.toNat_add]

theorem toNat_ea_zpy : (ea (.zpy b1) s).toNat = (b1.toNat + s.y.toNat) % 256 := by
  rw [ea, toNat_zext16, BitVec.toNat_add]

theorem toNat_ea_abx : (ea (.abx a) s).toNat = (a.toNat + s.x.toNat) % 65536 := by
  rw [ea, BitVec.toNat_add, toNat_zext16]

theorem toNat_ea_aby : (ea (.aby a) s).toNat = (a.toNat + s.y.toNat) % 65536 := by
  rw [ea, BitVec.toNat_add, toNat_zext16]

theorem toNat_ea_ind :
    (ea (.ind a) s).toNat = (s.mem.readByte a.toNat).toNat + 256 * (s.mem.readByte (a.toNat + 1)).toNat :=
  toNat_peekWord s a

theorem toNat_ea_izx :
    (ea (.izx b1) s).toNat = (s.mem.readByte ((b1.toNat + s.x.toNat) % 256)).toNat
      + 256 * (s.mem.readByte ((b1.toNat + s.x.toNat) % 256 + 1)).toNat := by
  rw [← toNat_ea_zpx]
  exact toNat_peekWord s _

theorem toNat_ea_izy :
    (ea (.izy b1) s).toNat = ((s.mem.readByte b1.toNat).toNat + 256 * (s.mem.readByte (b1.toNat + 1)).toNat
      + s.y.toNat) % 65536 := by
  rw [ea, BitVec.toNat_add, toNat_peekWord, toNat_zext16, toNat_zext16]

/-- The displacement is signed, and the sum wraps (R129). -/
theorem toNat_ea_rel : ((ea (.rel b1) s).toNat : Int) = ((s.pc.toNat : Int) + 2 + signed b1) % 65536 := by
  have hd : ((sext16 b1).toNat : Int) % 65536 = signed b1 % 65536 := by
    rw [← toInt_sext16, BitVec.toInt_eq_toNat_bmod]
    exact Int.bmod_emod.symm
  simp only [ea, BitVec.toNat_add, BitVec.reduceToNat]
  omega

end

/-- A branch form takes its own flag condition and its displacement to the operation all eight share (R205). -/
theorem exec_of_mem_branchForms {b1 : Byte} {f : Byte × Instr × (Flags → Bool)} (h : f ∈ branchForms b1)
    (s : State) : exec f.2.1 s = branch (f.2.2 s.p) b1 s := by
  revert f
  simp only [branchForms, List.forall_mem_cons]
  exact ⟨rfl, rfl, rfl, rfl, rfl, rfl, rfl, rfl, nofun⟩

/-! ### Operands and modes (30_encoding.md R83, R84) -/

theorem operandBytes_ext : ∀ {o o' : OperandBytes}, o.bytes = o'.bytes → o = o'
  | .none, .none, _ => rfl
  | .one _, .one _, h => congrArg OperandBytes.one (List.cons.inj h).1
  | .two a, .two a', h => by
    obtain ⟨hlo, hrest⟩ := List.cons.inj h
    obtain ⟨hhi, -⟩ := List.cons.inj hrest
    rw [← join_hiByte_loByte a, ← join_hiByte_loByte a', hlo, hhi]

/-- The operand a mode assembles from `b1` and `b2`: as many of them as its length has. -/
theorem operand_eq_of_instrOf {mn : Mnemonic} {m : Mode} {b1 b2 : Byte} {i : Instr} (h : instrOf mn m b1 b2 = some i) :
    i.operand = if m.len = 1 then .none else if m.len = 2 then .one b1 else .two (join b2 b1) := by
  refine operandBytes_ext ((operand_of_instrOf h).trans ?_)
  cases m <;> simp [Mode.len, OperandBytes.bytes]

theorem restricted_modes (mn : Mnemonic) : (.zpy ∈ mn.modes ↔ mn ∈ [Mnemonic.LDX, .STX]) ∧
    (.ind ∈ mn.modes ↔ mn = .JMP) ∧
    (.rel ∈ mn.modes ↔ mn ∈ [Mnemonic.BCC, .BCS, .BEQ, .BNE, .BMI, .BPL, .BVC, .BVS]) := by
  cases mn <;> decide

/-- Settles O32: the addresses one by one, the targets from the meanings, and the operands from the encoding. -/
theorem effectiveAddressesAreAsStated : Obligations.EffectiveAddressesAreAsStated := by
  refine ⟨fun s b1 a => ⟨toNat_ea_zp s b1, toNat_ea_zpx s b1, toNat_ea_zpy s b1, rfl, toNat_ea_abx s a,
      toNat_ea_aby s a, toNat_ea_ind s a, toNat_ea_izx s b1, toNat_ea_izy s b1, toNat_ea_rel s b1⟩,
    fun s a => ⟨⟨_, rfl, rfl⟩, ⟨_, rfl, rfl⟩, _, rfl, rfl⟩,
    fun s b1 op i cond h => ⟨_, exec_of_mem_branchForms h s, rfl⟩,
    fun mn m b1 b2 i h => ?_, fun _ _ => ⟨rfl, rfl, rfl⟩, by decide, by decide, by decide, restricted_modes⟩
  obtain ⟨-, hm⟩ := parts_of_instrOf h
  exact ⟨hm, congrArg Mode.len hm, operand_eq_of_instrOf h⟩

end Sys2Proof.Machine

namespace Sys2Proof.Machine

open Stated

/-! ### The flag functions (40_flags_addressing_step.md R110 to R112) -/

theorem msb_eq_isNeg (r : Byte) : r.msb = isNeg r := BitVec.msb_eq_decide r

theorem decide_eq_zero_eq_isZero (r : Byte) : decide (r = 0) = isZero r := decide_eq_decide.2 BitVec.toNat_eq

/-- R110 on numbers. -/
theorem zn_eq (p : Flags) (r : Byte) : p.zn r = { p with z := isZero r, n := isNeg r } := by
  rw [Flags.zn, decide_eq_zero_eq_isZero, ← BitVec.msb_eq_getLsbD_last, msb_eq_isNeg]

theorem decide_and_0x80_ne_zero (x : Byte) : decide (x &&& 0x80 ≠ 0) = x.msb := by
  have hand : x &&& 0x80 = if x.getLsbD 7 then 0x80 else 0 := BitVec.and_twoPow x 7
  rw [hand, BitVec.msb_eq_getLsbD_last]
  cases x.getLsbD 7 <;> decide

/-- R112: each operand's sign differs from the result's. -/
theorem overflowFromAddition_eq_signs (a b r : Byte) :
    overflowFromAddition a b r = (decide (isNeg a = isNeg b) && decide (isNeg r ≠ isNeg a)) := by
  have hbit : overflowFromAddition a b r = ((a ^^^ r) &&& (b ^^^ r)).msb := decide_and_0x80_ne_zero _
  rw [hbit, BitVec.msb_and, BitVec.msb_xor, BitVec.msb_xor, msb_eq_isNeg, msb_eq_isNeg, msb_eq_isNeg]
  cases isNeg a <;> cases isNeg b <;> cases isNeg r <;> rfl

/-- R111: the result is the exact sum modulo 256. -/
theorem toNat_carryFromAddition (a b : Byte) (cin : Bool) :
    (carryFromAddition a b cin).1.toNat = (a.toNat + b.toNat + cin.toNat) % 256 := BitVec.toNat_ofNat _ _

/-- R112 for the wrapped sum: the signed sum with carry does not fit. -/
theorem overflowFromAddition_eq_overflows (a b : Byte) (cin : Bool) :
    overflowFromAddition a b (carryFromAddition a b cin).1 = overflows (signed a + signed b + cin.toNat) := by
  have hsum := toNat_carryFromAddition a b cin
  have hcin := Bool.toNat_le cin
  have ha := a.isLt
  have hb := b.isLt
  rw [overflowFromAddition_eq_signs, isNeg, isNeg, isNeg, hsum, overflows, signed, signed, ← Bool.decide_and,
    decide_eq_decide, ne_eq, decide_eq_decide, decide_eq_decide]
  split <;> split <;> omega

/-- Settles O30: the flags one by one, the result and the carry by their definitions, and overflow by the signs. -/
theorem flagFunctionsAreAsStated : Obligations.FlagFunctionsAreAsStated :=
  ⟨zn_eq, fun a b cin => ⟨toNat_carryFromAddition a b cin, rfl, overflowFromAddition_eq_overflows a b cin⟩,
    overflowFromAddition_eq_signs⟩

/-! ### The step (40_flags_addressing_step.md R130 to R132) -/

theorem stepRunning_of_decoded {tbl : OpTable} {s : State} {i : Instr} (h : fetchDecode tbl s = .ok i) :
    stepRunning tbl s = exec i s := by
  rw [stepRunning, h]

theorem stepWith_of_running {s : State} (h : s.engine = .running) (tbl : OpTable) :
    stepWith tbl s = stepRunning tbl s := by
  rw [stepWith, h]

/-- R130, R241: a decoded instruction runs on the machine made `Running`. -/
theorem stepWith_of_decoded {tbl : OpTable} {s : State} {i : Instr} (hx : Executes s)
    (h : fetchDecode tbl s = .ok i) : stepWith tbl s = exec i { s with engine := .running } :=
  (stepWith_of_executes hx tbl).trans (stepRunning_of_decoded h)

/-- Settles O6: a running engine steps as it is, an armed one as a running one. -/
theorem stepRunsTheDecodedInstruction : Obligations.StepRunsTheDecodedInstruction :=
  fun _ _ h => ⟨fun he => (stepWith_of_running he T151).trans (stepRunning_of_decoded h),
    fun he hr => stepWith_of_decoded (.inr ⟨he, hr⟩) h⟩

theorem sameRegisterFile_enterTerminal (sig : Signal) (s : State) : SameRegisterFile s (enterTerminal sig s) :=
  ⟨rfl, rfl, rfl, rfl, rfl, rfl⟩

/-- R130: retiring leaves the engine and the signal, and its record is the Snapshot of the state it leaves. -/
theorem retire_of_handles {s u : State} (h : Handles s u) (npc : Addr) :
    (retire npc u).engine = s.engine ∧ (retire npc u).term = s.term ∧
      (retire npc u).events = s.events ++ [.snapshot (retire npc u).snapshot] := by
  rw [retire_events, snapshot_retire, h.events]
  exact ⟨h.engine, h.term, rfl⟩

/-- Settles O13: a rejected byte faults and BRK halts, both by entering a terminal state; any other decoded instruction
retires. -/
theorem stepIsAllOrNothing : Obligations.StepIsAllOrNothing := by
  intro tbl s t hx hstep
  cases hfetch : fetchDecode tbl s with
  | error k =>
    cases (stepWith_of_rejected hx hfetch).symm.trans hstep
    exact .inr ⟨_, rfl, rfl, .inr ⟨rfl, k, rfl⟩, sameRegisterFile_enterTerminal _ _, rfl, rfl⟩
  | ok i =>
    have hexec : exec i { s with engine := .running } = .next t := (stepWith_of_decoded hx hfetch).symm.trans hstep
    rcases exec_cases { s with engine := .running } i with ⟨-, hhalt⟩ | ⟨-, npc, u, hu, hretire⟩
    · cases hhalt.symm.trans hexec
      exact .inr ⟨_, rfl, rfl, .inl ⟨rfl, rfl⟩, sameRegisterFile_enterTerminal _ _, rfl, rfl⟩
    · cases hretire.symm.trans hexec
      obtain ⟨hrunning, hterm, hevents⟩ := retire_of_handles hu npc
      exact .inl ⟨hrunning, hterm, hevents, i, rfl, hretire⟩

end Sys2Proof.Machine

/-! ### The forms of an instruction group and their opcode bytes (30_encoding.md R88) -/

namespace Sys2Proof

/-- Under `T151` the encoder's byte of an instruction decodes to it, when the operand bytes are its own. -/
theorem decode3_opcode {i : Instr} {b1 b2 : Byte} (h : instrOf i.mnemonic i.mode b1 b2 = some i) :
    decode3 T151 i.opcode b1 b2 = .ok i :=
  decode3_eq_ok_iff.2 ⟨Laws.lookup_opcode i, operand_of_instrOf h⟩

/-- In a list of forms that gives each instruction the encoder's byte, each byte decodes to its instruction. -/
theorem decode3_of_mem_forms {α : Type} {forms : List (Byte × Instr × α)} {b1 b2 op : Byte} {i : Instr} {x : α}
    (hforms : forms.map (fun f => (f.1, instrOf f.2.1.mnemonic f.2.1.mode b1 b2)) =
      forms.map (fun f => (f.2.1.opcode, some f.2.1)))
    (h : (op, i, x) ∈ forms) : decode3 T151 op b1 b2 = .ok i := by
  obtain ⟨hop, hi⟩ := Prod.mk.inj (List.map_inj_left.1 hforms _ h)
  exact (congrArg (decode3 T151 · b1 b2) hop).trans (decode3_opcode hi)

end Sys2Proof

namespace Sys2Proof.Machine

open Stated

/-! ### What an instruction that falls through leaves (40_flags_addressing_step.md R130) -/

theorem retired_of_handles {s u : State} (h : Handles s u) (npc : Addr) : Retired s (retire npc u) npc := by
  obtain ⟨hengine, hterm, hevents⟩ := retire_of_handles h npc
  exact ⟨retire_pc u npc, hengine, h.resetDone, hterm, hevents⟩

/-- R24: `pc` advances by the length. -/
theorem retiredPast_of_handles {s u : State} (h : Handles s u) (len : Nat) :
    RetiredPast s (retire (s.pc + BitVec.ofNat 16 len) u) len := by
  have hpc : s.pc + BitVec.ofNat 16 len = BitVec.ofNat 16 (s.pc.toNat + len) := by
    rw [BitVec.ofNat_add, BitVec.ofNat_toNat, BitVec.setWidth_eq]
  rw [RetiredPast, ← hpc]
  exact retired_of_handles h _

theorem sameRegsBut_retire {rs : List Reg} {s u : State} (h : SameRegsBut rs s u) (npc : Addr) :
    SameRegsBut rs s (retire npc u) := fun r hr => (retire_reg u npc r).trans (h r hr)

theorem sameMemory_retire {s u : State} (h : u.mem = s.mem) (npc : Addr) : SameMemory s (retire npc u) :=
  peek_congr h

/-- What an instruction leaves whose handler ends by writing a register with ZN: the loads and transfers, and also the
logic and the register increments. -/
theorem advance_setRegZN {handler : State → State} {s : State} {r : Reg} {v : Byte}
    (h : handler s = s.setRegZN r v) (len : Nat) :
    ∃ t, advance len handler s = .next t ∧ t.reg r = v ∧ t.p = { s.p with z := isZero v, n := isNeg v } ∧
      SameRegsBut [r] s t ∧ SameMemory s t ∧ RetiredPast s t len := by
  refine ⟨_, rfl, ?_⟩
  rw [h]
  refine ⟨?reg, ?flags, sameRegsBut_retire (sameRegsBut_setRegZN s r v) _, sameMemory_retire (setRegZN_mem s r v) _,
    retiredPast_of_handles (handles_setRegZN s r v) len⟩
  case reg => rw [retire_reg, setRegZN_reg_same]
  case flags => rw [retire_p, setRegZN_p, zn_eq]

/-! ### Loads, stores, transfers (41_load_store_transfer.md R151 to R162) -/

/-- Where each instruction of a list of forms does what its form's operands say, any form's instruction does. -/
theorem exec_of_mem_forms {α : Type} {forms : List (Byte × Instr × α)} {s : State} (meaning : α → StepOutcome)
    (hforms : forms.map (fun f => exec f.2.1 s) = forms.map (fun f => meaning f.2.2))
    {op : Byte} {i : Instr} {x : α} (h : (op, i, x) ∈ forms) : exec i s = meaning x :=
  List.map_inj_left.1 hforms _ h

/-- A load form takes its register and its operand to the meaning all 18 share. -/
theorem exec_of_mem_loadForms {b1 b2 op : Byte} {i : Instr} {r : Reg} {o : Source} {len : Nat}
    (h : (op, i, r, o, len) ∈ loadForms b1 b2) (s : State) : exec i s = advance len (load r o) s :=
  exec_of_mem_forms (fun x => advance x.2.2 (load x.1 x.2.1) s) rfl h

theorem exec_of_mem_storeForms {b1 b2 op : Byte} {i : Instr} {r : Reg} {f : AddrForm} {len : Nat}
    (h : (op, i, r, f, len) ∈ storeForms b1 b2) (s : State) : exec i s = advance len (store r f) s :=
  exec_of_mem_forms (fun x => advance x.2.2 (store x.1 x.2.1) s) rfl h

theorem exec_of_mem_transferForms {op : Byte} {i : Instr} {src dst : Reg} {len : Nat}
    (h : (op, i, src, dst, len) ∈ transferForms) (s : State) : exec i s = advance len (moveReg dst src) s :=
  exec_of_mem_forms (fun x => advance x.2.2 (moveReg x.2.1 x.1) s) rfl h

/-- Settles O33: every load form is `load`, which ends by writing the operand to the register with ZN. -/
theorem loadsWriteTheRegisterAndZN : Obligations.LoadsWriteTheRegisterAndZN := by
  intro s b1 b2 op i r o len h
  refine ⟨decode3_of_mem_forms rfl h, ?_⟩
  rw [exec_of_mem_loadForms h]
  exact advance_setRegZN rfl len

/-- Settles O34: every store form is `store`, one write at the address computed in the start state. -/
theorem storesWriteTheByteAtEa : Obligations.StoresWriteTheByteAtEa := by
  intro s b1 b2 op i r f len h hw
  have hstored : StoresByte s (store r f s) (ea f s) (s.reg r) := peek_poke hw (ea f s) (s.reg r)
  exact ⟨decode3_of_mem_forms rfl h, _, exec_of_mem_storeForms h s, hstored,
    sameRegsBut_retire (sameRegsBut_store s r f) _, store_p s r f, retiredPast_of_handles (handles_store s r f) len⟩

/-- Settles O35: every transfer form is `moveReg`, which ends by writing the source to the destination with ZN. -/
theorem transfersCopyTheRegisterAndSetZN : Obligations.TransfersCopyTheRegisterAndSetZN := by
  intro s b1 b2 op i src dst len h
  refine ⟨decode3_of_mem_forms rfl h, ?_⟩
  rw [exec_of_mem_transferForms h]
  exact advance_setRegZN rfl len

/-- Settles O36: `txs` is one register write, without ZN. -/
theorem txsWritesSpAndNoFlag : Obligations.TxsWritesSpAndNoFlag := fun s _ _ =>
  ⟨decode3_opcode (i := .txs) rfl, _, rfl, setReg_SP_sp s s.x, txs_p s, sameRegsBut_retire (sameRegsBut_txs s) _,
    sameMemory_retire (txs_mem s) _, retiredPast_of_handles (handles_txs s) 1⟩

end Sys2Proof.Machine

namespace Sys2Proof.Machine

open Stated

/-! ### ADC, SBC: the addition of R171 on numbers (42_arithmetic_logic.md R171, R172) -/

theorem toNat_addToA_a (s : State) (m : Byte) :
    (addToA m s).a.toNat = (s.a.toNat + m.toNat + s.p.c.toNat) % 256 := toNat_carryFromAddition s.a m s.p.c

/-- C and V are those of the exact sums, Z and N those of the wrapped one. -/
theorem addToA_p_on_numbers (s : State) (m : Byte) :
    (addToA m s).p = { s.p with
      c := decide (255 < s.a.toNat + m.toNat + s.p.c.toNat)
      v := overflows (signed s.a + signed m + s.p.c.toNat)
      z := isZero (addToA m s).a
      n := isNeg (addToA m s).a } := by
  rw [addToA_p, zn_eq, overflowFromAddition_eq_overflows]
  rfl

theorem toNat_xor_0xFF (m : Byte) : (m ^^^ 0xFF).toNat = 255 - m.toNat :=
  (congrArg BitVec.toNat (BitVec.xor_allOnes (x := m))).trans BitVec.toNat_not

/-- The complement of a byte is `-1 - m` in two's complement: what makes R172's subtraction an addition. -/
theorem signed_xor_0xFF (m : Byte) : signed (m ^^^ 0xFF) = -1 - signed m := by
  have hm := m.isLt
  rw [signed, signed, toNat_xor_0xFF]
  split <;> split <;> omega

/-- R172: adding the complement subtracts, less one more without carry. -/
theorem toNat_sbc_a (s : State) (o : Source) :
    ((sbc o s).a.toNat : Int) = ((s.a.toNat : Int) - (o.val s).toNat - (1 - (s.p.c.toNat : Int))) % 256 := by
  have hm := (o.val s).isLt
  rw [sbc, toNat_addToA_a, toNat_xor_0xFF]
  omega

/-- R172: the carry out of the added complement is "no borrow", and its signed sum is the signed difference. -/
theorem sbc_p_on_numbers (s : State) (o : Source) :
    (sbc o s).p = { s.p with
      c := decide (0 ≤ (s.a.toNat : Int) - (o.val s).toNat - (1 - (s.p.c.toNat : Int)))
      v := overflows (signed s.a - signed (o.val s) - (1 - (s.p.c.toNat : Int)))
      z := isZero (sbc o s).a
      n := isNeg (sbc o s).a } := by
  have hm := (o.val s).isLt
  have hcarry : 255 < s.a.toNat + (255 - (o.val s).toNat) + s.p.c.toNat ↔
      0 ≤ (s.a.toNat : Int) - (o.val s).toNat - (1 - (s.p.c.toNat : Int)) := by omega
  have hdiff : signed s.a + (-1 - signed (o.val s)) + s.p.c.toNat =
      signed s.a - signed (o.val s) - (1 - (s.p.c.toNat : Int)) := by omega
  rw [sbc, addToA_p_on_numbers, toNat_xor_0xFF, signed_xor_0xFF, hdiff, decide_eq_decide.2 hcarry]

theorem exec_of_mem_adcForms {b1 b2 op : Byte} {i : Instr} {o : Source} {len : Nat}
    (h : (op, i, o, len) ∈ adcForms b1 b2) (s : State) : exec i s = advance len (adc o) s :=
  exec_of_mem_forms (fun (o, len) => advance len (adc o) s) rfl h

theorem exec_of_mem_sbcForms {b1 b2 op : Byte} {i : Instr} {o : Source} {len : Nat}
    (h : (op, i, o, len) ∈ sbcForms b1 b2) (s : State) : exec i s = advance len (sbc o) s :=
  exec_of_mem_forms (fun (o, len) => advance len (sbc o) s) rfl h

/-- Settles O37: every ADC form is `adc`, the addition of the operand, which does not look at P.D. -/
theorem adcAddsWithCarry : Obligations.AdcAddsWithCarry := fun s _ _ _ _ o len h =>
  ⟨decode3_of_mem_forms rfl h, _, exec_of_mem_adcForms h s, toNat_addToA_a s (o.val s),
    addToA_p_on_numbers s (o.val s), sameRegsBut_retire (sameRegsBut_addToA s _) _,
    sameMemory_retire (addToA_mem s _) _, retiredPast_of_handles (handles_adc s o) len⟩

/-- Settles O38: every SBC form is `sbc`, the addition of the complement, which on numbers is the difference. -/
theorem sbcSubtractsWithBorrow : Obligations.SbcSubtractsWithBorrow := fun s _ _ _ _ o len h =>
  ⟨decode3_of_mem_forms rfl h, _, exec_of_mem_sbcForms h s, toNat_sbc_a s o, sbc_p_on_numbers s o,
    sameRegsBut_retire (sameRegsBut_addToA s _) _, sameMemory_retire (addToA_mem s _) _,
    retiredPast_of_handles (handles_sbc s o) len⟩

/-! ### AND, ORA, EOR (42_arithmetic_logic.md R173 to R175) -/

/-- The operation on bytes that is `f` on each bit; `onBits_and`, `onBits_or` and `onBits_xor` say that the model's
operations are of this kind. -/
def onBits (f : Bool → Bool → Bool) (a b : Byte) : Byte := BitVec.ofFnLE fun k : Fin 8 => f (a.getLsbD k) (b.getLsbD k)

theorem getLsbD_onBits (f : Bool → Bool → Bool) (a b : Byte) {k : Nat} (hk : k < 8) :
    (onBits f a b).getLsbD k = f (a.getLsbD k) (b.getLsbD k) := by
  rw [onBits, BitVec.getLsbD_ofFnLE, dif_pos hk]

theorem eq_onBits {f : Bool → Bool → Bool} {g : Byte → Byte → Byte}
    (h : ∀ a b k, (g a b).getLsbD k = f (a.getLsbD k) (b.getLsbD k)) : onBits f = g :=
  funext fun a => funext fun b => BitVec.eq_of_getLsbD_eq fun k hk => (getLsbD_onBits f a b hk).trans (h a b k).symm

theorem onBits_and : onBits and = (· &&& ·) := eq_onBits fun _ _ _ => BitVec.getLsbD_and
theorem onBits_or : onBits or = (· ||| ·) := eq_onBits fun _ _ _ => BitVec.getLsbD_or
theorem onBits_xor : onBits xor = (· ^^^ ·) := eq_onBits fun _ _ _ => BitVec.getLsbD_xor

/-- A form's operation on one bit says which operation on bytes its instruction is. -/
theorem exec_of_mem_logicForms {b1 b2 op : Byte} {i : Instr} {f : Bool → Bool → Bool} {o : Source} {len : Nat}
    (h : (op, i, f, o, len) ∈ logicForms b1 b2) (s : State) : exec i s = advance len (logic (onBits f) o) s := by
  refine exec_of_mem_forms (fun (f, o, len) => advance len (logic (onBits f) o) s) ?_ h
  simp only [logicForms, List.map_cons, onBits_and, onBits_or, onBits_xor]
  rfl

/-- Settles O39: every form is `logic` of an operation that acts on each bit, which ends by writing A with ZN. -/
theorem logicActsOnEachBit : Obligations.LogicActsOnEachBit := by
  intro s b1 b2 op i f o len h
  obtain ⟨t, ht, ha, hp, hframe⟩ := advance_setRegZN (handler := logic (onBits f) o) (s := s) rfl len
  rw [← ha] at hp
  exact ⟨decode3_of_mem_forms rfl h, t, (exec_of_mem_logicForms h s).trans ht,
    fun k hk => (congrArg (BitVec.getLsbD · k) ha).trans (getLsbD_onBits f s.a (o.val s) hk), hp, hframe⟩

/-! ### Compares and BIT: the flags alone (42_arithmetic_logic.md R176 to R179) -/

theorem isZero_sub (r m : Byte) : isZero (r - m) = decide (r.toNat = m.toNat) :=
  (decide_eq_zero_eq_isZero _).symm.trans (decide_eq_decide.2 (sub_eq_zero.trans BitVec.toNat_eq))

theorem isNeg_sub (r m : Byte) : isNeg (r - m) = decide (128 ≤ (r.toNat + 256 - m.toNat) % 256) := by
  have hm := m.isLt
  rw [isNeg, BitVec.toNat_sub, decide_eq_decide]
  omega

/-- R176 on numbers. -/
theorem compare_p_on_numbers (s : State) (r : Reg) (o : Source) :
    (compare r o s).p = { s.p with
      c := decide ((o.val s).toNat ≤ (s.reg r).toNat)
      z := decide ((s.reg r).toNat = (o.val s).toNat)
      n := decide (128 ≤ ((s.reg r).toNat + 256 - (o.val s).toNat) % 256) } := by
  rw [compare_p, zn_eq, isZero_sub, isNeg_sub]

/-- R179 on numbers. -/
theorem bitTest_p_on_numbers (s : State) (o : Source) :
    (bitTest o s).p = { s.p with
      z := decide (s.a.toNat &&& (o.val s).toNat = 0)
      n := (o.val s).toNat.testBit 7
      v := (o.val s).toNat.testBit 6 } := by
  rw [bitTest_p, decide_eq_zero_eq_isZero, isZero, BitVec.toNat_and]
  rfl

theorem exec_of_mem_compareForms {b1 b2 op : Byte} {i : Instr} {r : Reg} {o : Source} {len : Nat}
    (h : (op, i, r, o, len) ∈ compareForms b1 b2) (s : State) : exec i s = advance len (compare r o) s :=
  exec_of_mem_forms (fun (r, o, len) => advance len (compare r o) s) rfl h

theorem exec_of_mem_bitForms {b1 b2 op : Byte} {i : Instr} {f : AddrForm} {len : Nat}
    (h : (op, i, f, len) ∈ bitForms b1 b2) (s : State) : exec i s = advance len (bitTest (.mem f)) s :=
  exec_of_mem_forms (fun (f, len) => advance len (bitTest (.mem f)) s) rfl h

/-- Settles O40: every form is `compare`, one write of the flags. -/
theorem comparesSetFlagsAlone : Obligations.ComparesSetFlagsAlone := fun s _ _ _ _ r o len h =>
  ⟨decode3_of_mem_forms rfl h, _, exec_of_mem_compareForms h s, compare_p_on_numbers s r o,
    sameRegsBut_retire (sameRegsBut_compare s r o) _, sameMemory_retire (compare_mem s r o) _,
    retiredPast_of_handles (handles_compare s r o) len⟩

/-- Settles O41: both forms are `bitTest`, one write of the flags. -/
theorem bitTestsTheOperand : Obligations.BitTestsTheOperand := fun s _ _ _ _ f len h =>
  ⟨decode3_of_mem_forms rfl h, _, exec_of_mem_bitForms h s, bitTest_p_on_numbers s (.mem f),
    sameRegsBut_retire (sameRegsBut_bitTest s _) _, sameMemory_retire (bitTest_mem s _) _,
    retiredPast_of_handles (handles_bitTest s _) len⟩

/-! ### INC, DEC and the register increments (42_arithmetic_logic.md R180 to R185) -/

/-- A byte plus `d` modulo 256: by `addByte_one` and `addByte_255` the increment and the decrement of the model. -/
def addByte (d : Nat) (v : Byte) : Byte := BitVec.ofNat 8 (v.toNat + d)

theorem toNat_addByte (d : Nat) (v : Byte) : (addByte d v).toNat = (v.toNat + d) % 256 := BitVec.toNat_ofNat _ _

theorem addByte_one : addByte 1 = (· + 1) := rfl

theorem addByte_255 : addByte 255 = (· - 1) := by
  funext v
  refine BitVec.eq_of_toNat_eq ?_
  rw [toNat_addByte, BitVec.toNat_sub, Nat.add_comm]
  rfl

theorem exec_of_mem_stepMemForms {b1 b2 op : Byte} {i : Instr} {d : Nat} {f : AddrForm} {len : Nat}
    (h : (op, i, d, f, len) ∈ stepMemForms b1 b2) (s : State) : exec i s = advance len (stepMem (addByte d) f) s := by
  refine exec_of_mem_forms (fun (d, f, len) => advance len (stepMem (addByte d) f) s) ?_ h
  simp only [stepMemForms, List.map_cons, addByte_one, addByte_255]
  rfl

theorem exec_of_mem_stepRegForms {op : Byte} {i : Instr} {d : Nat} {r : Reg} {len : Nat}
    (h : (op, i, d, r, len) ∈ stepRegForms) (s : State) : exec i s = advance len (stepReg (addByte d) r) s := by
  refine exec_of_mem_forms (fun (d, r, len) => advance len (stepReg (addByte d) r) s) ?_ h
  simp only [stepRegForms, List.map_cons, addByte_one, addByte_255]
  rfl

/-- Settles O42: every form is `stepMem`, one write at the address computed in the start state, and ZN. -/
theorem incDecRewriteTheByteAtEa : Obligations.IncDecRewriteTheByteAtEa := by
  intro s b1 b2 op i d f len h hw
  have hstored : StoresByte s (stepMem (addByte d) f s) (ea f s) (addByte d (s.peek (ea f s))) :=
    peek_poke hw (ea f s) _
  exact ⟨decode3_of_mem_forms rfl h, _, _, exec_of_mem_stepMemForms h s, toNat_addByte d _, hstored, zn_eq s.p _,
    sameRegsBut_retire (sameRegsBut_stepMem s _ f) _, retiredPast_of_handles (handles_stepMem s _ f) len⟩

/-- Settles O43: each of the four is `stepReg`, which ends by writing the register with ZN. -/
theorem registerIncDecWrapAndSetZN : Obligations.RegisterIncDecWrapAndSetZN := by
  intro s b1 b2 op i d r len h
  obtain ⟨t, ht, hreg, hp, hframe⟩ := advance_setRegZN (handler := stepReg (addByte d) r) (s := s) rfl len
  rw [← hreg] at hp
  exact ⟨decode3_of_mem_forms rfl h, t, (exec_of_mem_stepRegForms h s).trans ht,
    (congrArg BitVec.toNat hreg).trans (toNat_addByte d _), hp, hframe⟩

end Sys2Proof.Machine

namespace Sys2Proof.Machine

open Stated

/-! ### The one-bit shifts on numbers (43_shift_rotate.md R191 to R194) -/

/-- The operation `g` on bytes, the old carry in, is the shift `f` on numbers: its result and the bit shifted out. -/
def ShiftsAs (f : Nat → Nat → Nat × Nat) (g : Bool → Byte → Byte × Bool) : Prop :=
  ∀ (c : Bool) (v : Byte), (g c v).1.toNat = (f c.toNat v.toNat).1 ∧ (g c v).2 = decide ((f c.toNat v.toNat).2 = 1)

theorem toNat_shiftLeft_one (v : Byte) : (v <<< 1).toNat = 2 * v.toNat % 256 := by
  rw [BitVec.toNat_shiftLeft, Nat.shiftLeft_eq, Nat.mul_comm]

theorem toNat_shiftRight_one (v : Byte) : (v >>> 1).toNat = v.toNat / 2 := by
  rw [BitVec.toNat_ushiftRight, Nat.shiftRight_eq_div_pow]

theorem getLsbD_seven (v : Byte) : v.getLsbD 7 = decide (v.toNat / 128 = 1) := by
  have hv := v.isLt
  rw [BitVec.getLsbD, Nat.testBit_eq_decide_div_mod_eq, decide_eq_decide]
  omega

theorem getLsbD_zero (v : Byte) : v.getLsbD 0 = decide (v.toNat % 2 = 1) := Nat.testBit_zero _

theorem toNat_bitByte (c : Bool) : (bitByte c).toNat = c.toNat := by cases c <;> rfl

theorem toNat_bitByte_shiftLeft (c : Bool) : (bitByte c <<< 7).toNat = 128 * c.toNat := by cases c <;> rfl

/-- The carry fills the bit the left shift left free, so the `|||` is a sum. -/
theorem toNat_rolByte (c : Bool) (v : Byte) : (rolByte c v).1.toNat = (2 * v.toNat + c.toNat) % 256 := by
  have hc : c.toNat < 2 ^ 1 := c.toNat_lt
  have hfree : 2 * v.toNat % 256 = 2 ^ 1 * (v.toNat % 128) := by omega
  rw [rolByte, BitVec.toNat_or, toNat_shiftLeft_one, toNat_bitByte, hfree, ← Nat.two_pow_add_eq_or_of_lt hc]
  omega

/-- The carry fills the bit the right shift left free. -/
theorem toNat_rorByte (c : Bool) (v : Byte) : (rorByte c v).1.toNat = v.toNat / 2 + 128 * c.toNat := by
  have hfree : v.toNat / 2 < 2 ^ 7 := by have := v.isLt; omega
  rw [rorByte, BitVec.toNat_or, toNat_shiftRight_one, toNat_bitByte_shiftLeft, Nat.lor_comm, Nat.add_comm]
  exact (Nat.two_pow_add_eq_or_of_lt hfree c.toNat).symm

@[simp] theorem shiftsAs_aslByte : ShiftsAs aslNat (fun _ => aslByte) := fun _ v =>
  ⟨toNat_shiftLeft_one v, getLsbD_seven v⟩
@[simp] theorem shiftsAs_lsrByte : ShiftsAs lsrNat (fun _ => lsrByte) := fun _ v =>
  ⟨toNat_shiftRight_one v, getLsbD_zero v⟩
@[simp] theorem shiftsAs_rolByte : ShiftsAs rolNat rolByte := fun c v => ⟨toNat_rolByte c v, getLsbD_seven v⟩
@[simp] theorem shiftsAs_rorByte : ShiftsAs rorNat rorByte := fun c v => ⟨toNat_rorByte c v, getLsbD_zero v⟩

/-- The operation on bytes that a shift on numbers is: by `shiftByte_aslNat` and the three after it
the model's own. -/
def shiftByte (f : Nat → Nat → Nat × Nat) (c : Bool) (v : Byte) : Byte × Bool :=
  (BitVec.ofNat 8 (f c.toNat v.toNat).1, decide ((f c.toNat v.toNat).2 = 1))

theorem shiftByte_eq {f : Nat → Nat → Nat × Nat} {g : Bool → Byte → Byte × Bool} (h : ShiftsAs f g) :
    shiftByte f = g := by
  funext c v
  obtain ⟨hresult, hcarry⟩ := h c v
  rw [shiftByte, ← hresult, ← hcarry, BitVec.ofNat_toNat, BitVec.setWidth_eq]

@[simp] theorem shiftByte_aslNat : shiftByte aslNat = fun _ => aslByte := shiftByte_eq shiftsAs_aslByte
@[simp] theorem shiftByte_lsrNat : shiftByte lsrNat = fun _ => lsrByte := shiftByte_eq shiftsAs_lsrByte
@[simp] theorem shiftByte_rolNat : shiftByte rolNat = rolByte := shiftByte_eq shiftsAs_rolByte
@[simp] theorem shiftByte_rorNat : shiftByte rorNat = rorByte := shiftByte_eq shiftsAs_rorByte

/-- Each form's shift on numbers is one of the four, so its result fits a byte. -/
theorem shiftsAs_of_mem_shiftAccForms {op : Byte} {i : Instr} {f : Nat → Nat → Nat × Nat} {len : Nat}
    (h : (op, i, f, len) ∈ shiftAccForms) : ShiftsAs f (shiftByte f) := by
  have hall : ∀ x ∈ shiftAccForms, ShiftsAs x.2.2.1 (shiftByte x.2.2.1) := by simp [shiftAccForms]
  exact hall _ h

theorem shiftsAs_of_mem_shiftMemForms {b1 b2 op : Byte} {i : Instr} {f : Nat → Nat → Nat × Nat} {g : AddrForm}
    {len : Nat} (h : (op, i, f, g, len) ∈ shiftMemForms b1 b2) : ShiftsAs f (shiftByte f) := by
  have hall : ∀ x ∈ shiftMemForms b1 b2, ShiftsAs x.2.2.1 (shiftByte x.2.2.1) := by simp [shiftMemForms]
  exact hall _ h

theorem exec_of_mem_shiftAccForms {op : Byte} {i : Instr} {f : Nat → Nat → Nat × Nat} {len : Nat}
    (h : (op, i, f, len) ∈ shiftAccForms) (s : State) : exec i s = advance len (shift (shiftByte f s.p.c) .acc) s := by
  refine exec_of_mem_forms (fun (f, len) => advance len (shift (shiftByte f s.p.c) .acc) s) ?_ h
  simp only [shiftAccForms, List.map_cons, shiftByte_aslNat, shiftByte_lsrNat, shiftByte_rolNat, shiftByte_rorNat]
  rfl

theorem exec_of_mem_shiftMemForms {b1 b2 op : Byte} {i : Instr} {f : Nat → Nat → Nat × Nat} {g : AddrForm} {len : Nat}
    (h : (op, i, f, g, len) ∈ shiftMemForms b1 b2) (s : State) :
    exec i s = advance len (shift (shiftByte f s.p.c) (.mem g)) s := by
  refine exec_of_mem_forms (fun (f, g, len) => advance len (shift (shiftByte f s.p.c) (.mem g)) s) ?_ h
  simp only [shiftMemForms, List.map_cons, shiftByte_aslNat, shiftByte_lsrNat, shiftByte_rolNat, shiftByte_rorNat]
  rfl

/-- R190 on numbers: C is the bit shifted out, Z and N those of the result. -/
theorem shift_p_on_numbers (s : State) (f : Nat → Nat → Nat × Nat) (pl : Place) :
    (shift (shiftByte f s.p.c) pl s).p = { s.p with
      c := decide ((f s.p.c.toNat (pl.val s).toNat).2 = 1)
      z := isZero (shiftByte f s.p.c (pl.val s)).1
      n := isNeg (shiftByte f s.p.c (pl.val s)).1 } := by
  rw [shift_p, zn_eq]
  rfl

/-- Settles O44: every form is `shift` of the operation on bytes that is its shift on numbers, which puts the result
where the operand was, in memory by one write at the address computed in the start state. -/
theorem shiftsMoveOneBitThroughCarry : Obligations.ShiftsMoveOneBitThroughCarry := by
  constructor
  · intro s b1 b2 op i f len h
    exact ⟨decode3_of_mem_forms rfl h, _, exec_of_mem_shiftAccForms h s,
      (shiftsAs_of_mem_shiftAccForms h s.p.c s.a).1, shift_p_on_numbers s f .acc,
      sameRegsBut_retire (sameRegsBut_shift s _ .acc) _, sameMemory_retire (shift_acc_mem s _) _,
      retiredPast_of_handles (handles_shift s _ .acc) len⟩
  · intro s b1 b2 op i f g len h hw
    have hstored : StoresByte s (shift (shiftByte f s.p.c) (.mem g) s) (ea g s)
        (shiftByte f s.p.c (s.peek (ea g s))).1 := peek_poke hw (ea g s) _
    exact ⟨decode3_of_mem_forms rfl h, _, _, exec_of_mem_shiftMemForms h s,
      (shiftsAs_of_mem_shiftMemForms h s.p.c _).1, hstored, shift_p_on_numbers s f (.mem g),
      sameRegsBut_retire (sameRegsBut_shift s _ (.mem g)) _, retiredPast_of_handles (handles_shift s _ (.mem g)) len⟩

end Sys2Proof.Machine

namespace Sys2Proof.Machine

open Stated

/-! ### Words on numbers, and the address of a stack pointer (10_state.md R22) -/

theorem join_eq_ofNat (hi lo : Byte) : join hi lo = BitVec.ofNat 16 (lo.toNat + 256 * hi.toNat) := by
  rw [← toNat_join, BitVec.ofNat_toNat, BitVec.setWidth_eq]

theorem toNat_loByte (w : Addr) : (loByte w).toNat = w.toNat % 256 := BitVec.extractLsb'_toNat 0 8 w

theorem toNat_hiByte (w : Addr) : (hiByte w).toNat = w.toNat / 256 := by
  have hw := w.isLt
  rw [hiByte, BitVec.extractLsb'_toNat, Nat.shiftRight_eq_div_pow]
  omega

/-- A stack pointer designates the byte of any number it is modulo 256. -/
theorem stackAddr_of_toNat {sp : Byte} {n : Nat} (h : sp.toNat = n % 256) : stackAddr sp = stackByte n := by
  rw [stackAddr_eq_stackByte, h, stackByte, Nat.mod_mod, stackByte]

theorem toNat_sub_one (sp : Byte) : (sp - 1).toNat = (sp.toNat + 255) % 256 := by
  rw [BitVec.toNat_sub, Nat.add_comm]
  rfl

theorem stackAddr_injective : Function.Injective stackAddr := fun sp sp' h => by
  have hnat := congrArg BitVec.toNat h
  simp only [stackAddr, BitVec.toNat_add, toNat_zext16, BitVec.reduceToNat] at hnat
  exact BitVec.eq_of_toNat_eq (by omega)

/-! ### Pushing a word, pulling a word (44_control_flow.md R202, R203) -/

theorem pushWord_sp (w : Addr) (s : State) : (pushWord w s).sp = s.sp - 1 - 1 := rfl

theorem toNat_pushWord_sp (w : Addr) (s : State) : (pushWord w s).sp.toNat = (s.sp.toNat + 254) % 256 := by
  rw [pushWord_sp, toNat_sub_one, toNat_sub_one]
  omega

/-- A read after a word was pushed: the high byte at the old `SP`, the low byte below it. -/
theorem peek_pushWord {s : State} (hw : s.mem.wf) (w k : Addr) :
    (pushWord w s).peek k =
      if k = stackByte (s.sp.toNat + 255) then loByte w
      else if k = stackByte s.sp.toNat then hiByte w
      else s.peek k := by
  rw [pushWord, peek_push (wf_push hw _), peek_push hw, push_sp, stackAddr_of_toNat (toNat_sub_one s.sp),
    stackAddr_eq_stackByte]

/-- The two bytes a word is pushed to are distinct. -/
theorem stackByte_ne_below (sp : Byte) : stackByte sp.toNat ≠ stackByte (sp.toNat + 255) := by
  rw [← stackAddr_eq_stackByte, ← stackAddr_of_toNat (toNat_sub_one sp)]
  exact stackAddr_injective.ne (by bv_omega)

theorem toNat_pull_sp {s : State} {n : Nat} (h : s.sp.toNat = n % 256) : s.pull.sp.toNat = (n + 1) % 256 := by
  rw [pull_sp, BitVec.toNat_add, h]
  exact Nat.mod_add_mod n 256 1

theorem pulled_eq {s : State} {n : Nat} (h : s.sp.toNat = n % 256) : s.pulled = s.peek (stackByte (n + 1)) :=
  congrArg s.peek (stackAddr_of_toNat (toNat_pull_sp h))

/-- The word two pulls return, the stack pointer being `n` modulo 256. -/
theorem pulledWord_eq {s : State} {n : Nat} (h : s.sp.toNat = n % 256) :
    s.pulledWord = join (s.peek (stackByte (n + 2))) (s.peek (stackByte (n + 1))) := by
  rw [State.pulledWord, pulled_eq h, pulled_eq (toNat_pull_sp h), peek_pull]

theorem pullWord_sp (s : State) : (pullWord s).sp = s.sp + 1 + 1 := rfl

theorem toNat_pullWord_sp {s : State} {n : Nat} (h : s.sp.toNat = n % 256) :
    (pullWord s).sp.toNat = (n + 2) % 256 := toNat_pull_sp (toNat_pull_sp h)

theorem toNat_sp_mod (s : State) : s.sp.toNat = s.sp.toNat % 256 := (Nat.mod_eq_of_lt s.sp.isLt).symm

theorem stackByte_add_256 (n : Nat) : stackByte (n + 256) = stackByte n := by
  rw [stackByte, Nat.add_mod_right, stackByte]

/-- Pulling a word undoes pushing it. -/
theorem pulledWord_pushWord {s : State} (hw : s.mem.wf) (w : Addr) : (pushWord w s).pulledWord = w := by
  rw [pulledWord_eq (toNat_pushWord_sp w s), stackByte_add_256, peek_pushWord hw, peek_pushWord hw,
    if_neg (stackByte_ne_below s.sp), if_pos rfl, if_pos rfl, join_hiByte_loByte]

theorem pullWord_pushWord_sp (w : Addr) (s : State) : (pullWord (pushWord w s)).sp = s.sp := by
  rw [pullWord_sp, pushWord_sp, BitVec.sub_add_cancel, BitVec.sub_add_cancel]

/-! ### JMP and the branches (44_control_flow.md R201, R205 to R213) -/

/-- What an instruction leaves that does nothing but go somewhere. -/
theorem redirect_id (npc : Addr) (s : State) :
    ∃ t, redirect npc id s = .next t ∧ Retired s t npc ∧ SameRegsBut [] s t ∧ t.p = s.p ∧ SameMemory s t :=
  ⟨_, rfl, retired_of_handles Handles.rfl npc, sameRegsBut_retire (fun _ _ => rfl) npc, rfl,
    sameMemory_retire rfl npc⟩

theorem exec_of_mem_jmpForms {b1 b2 op : Byte} {i : Instr} {f : AddrForm} (h : (op, i, f) ∈ jmpForms b1 b2)
    (s : State) : exec i s = redirect (ea f s) id s :=
  exec_of_mem_forms (fun f => redirect (ea f s) id s) rfl h

/-- Settles O45: both forms are a `redirect` to the effective address with nothing else to do. -/
theorem jmpGoesToEa : Obligations.JmpGoesToEa := by
  intro s b1 b2 op i f h
  rw [exec_of_mem_jmpForms h]
  exact ⟨decode3_of_mem_forms rfl h, redirect_id (ea f s) s⟩

theorem ea_rel_eq_ofInt (s : State) (b1 : Byte) :
    ea (.rel b1) s = BitVec.ofInt 16 ((s.pc.toNat : Int) + 2 + signed b1) := by
  refine BitVec.eq_of_toNat_eq ?_
  rw [BitVec.toNat_ofInt]
  exact (Int.toNat_natCast _).symm.trans (congrArg Int.toNat (toNat_ea_rel s b1))

theorem pc_add_two (s : State) : s.pc + 2 = BitVec.ofNat 16 (s.pc.toNat + 2) := by
  rw [BitVec.ofNat_add, BitVec.ofNat_toNat, BitVec.setWidth_eq]
  rfl

/-- Settles O49: every branch form is `branch` of its condition, a `redirect` with nothing else to do. -/
theorem branchesGoWhereTheFlagSays : Obligations.BranchesGoWhereTheFlagSays := by
  intro s b1 b2 op i cond h
  rw [exec_of_mem_branchForms h s, ← ea_rel_eq_ofInt, ← pc_add_two]
  exact ⟨decode3_of_mem_forms rfl h, redirect_id _ s⟩

/-! ### JSR, RTS, RTI (44_control_flow.md R202 to R204) -/

theorem exec_jsr (a : Addr) (s : State) : exec (.jsr a) s = .next (retire a (pushWord (s.pc + 2) s)) := rfl

theorem exec_rts (s : State) : exec .rts s = .next (retire (s.pulledWord + 1) (pullWord s)) := rfl

theorem exec_rti (s : State) : exec .rti s = .next (retire (plp s).pulledWord (pullWord (plp s))) := rfl

/-- Settles O46: JSR pushes the word `pc + 2`, whose high and low byte are a quotient and a remainder by 256. -/
theorem jsrPushesAndJumps : Obligations.JsrPushesAndJumps := by
  intro s b1 b2 hw
  have hpc : (s.pc + 2).toNat = (s.pc.toNat + 2) % 65536 := BitVec.toNat_add _ _
  have hread := peek_pushWord hw (s.pc + 2)
  refine ⟨decode3_opcode (i := .jsr (join b2 b1)) rfl, _, exec_jsr _ s, ?retired, toNat_pushWord_sp _ s,
    sameRegsBut_retire (sameRegsBut_pushWord s _) _, pushWord_p s (s.pc + 2), ?high, ?low, fun k hk hk' => ?frame⟩
  case retired => rw [← join_eq_ofNat]; exact retired_of_handles (handles_pushWord s _) _
  case high => rw [peek_retire, hread, if_neg (stackByte_ne_below s.sp), if_pos rfl, toNat_hiByte, hpc]
  case low => rw [peek_retire, hread, if_pos rfl, toNat_loByte, hpc, Nat.mod_mod_of_dvd _ (by decide)]
  case frame => rw [peek_retire, hread, if_neg hk', if_neg hk]

/-- Settles O47: RTS goes behind the word it pulls. -/
theorem rtsPullsAndAddsOne : Obligations.RtsPullsAndAddsOne := by
  intro s b1 b2
  refine ⟨decode3_opcode (i := .rts) rfl, _, exec_rts s, ?_, toNat_pullWord_sp (toNat_sp_mod s),
    sameRegsBut_retire (sameRegsBut_pullWord s) _, pullWord_p s, sameMemory_retire (pullWord_mem s) _⟩
  rw [BitVec.ofNat_add, ← join_eq_ofNat, ← pulledWord_eq (toNat_sp_mod s)]
  exact retired_of_handles (handles_pullWord s) _

/-- Settles O48: RTI is `plp` and then the pull of a word, one byte further up. -/
theorem rtiPullsFlagsAndAddress : Obligations.RtiPullsFlagsAndAddress := by
  intro s b1 b2
  have hsp : (plp s).sp.toNat = (s.sp.toNat + 1) % 256 := toNat_pull_sp (toNat_sp_mod s)
  refine ⟨decode3_opcode (i := .rti) rfl, _, exec_rti s, ?flags, ?retired, toNat_pullWord_sp hsp,
    sameRegsBut_retire (sameRegsBut_handlerOf s .RTI .imp .none) _, sameMemory_retire (pullWord_mem (plp s)) _⟩
  case flags => rw [retire_p, pullWord_p, plp_p, unpack_eq_flagsOfByte, pulled_eq (toNat_sp_mod s)]
  case retired =>
    rw [← join_eq_ofNat]
    exact pulledWord_eq hsp ▸ retired_of_handles (handles_rti s) _

/-- The word two pulls return is that of the stack pointer and the two bytes above it. -/
theorem pulledWord_congr {t u : State} (hsp : u.sp = t.sp)
    (h1 : u.peek (stackByte (u.sp.toNat + 1)) = t.peek (stackByte (u.sp.toNat + 1)))
    (h2 : u.peek (stackByte (u.sp.toNat + 2)) = t.peek (stackByte (u.sp.toNat + 2))) :
    u.pulledWord = t.pulledWord := by
  rw [pulledWord_eq (toNat_sp_mod u), h1, h2, hsp, ← pulledWord_eq (toNat_sp_mod t)]

/-- Settles O50: RTS pulls the word JSR pushed, the address of the JSR's last byte. -/
theorem rtsAfterJsrReturnsBehindTheCall : Obligations.RtsAfterJsrReturnsBehindTheCall := by
  intro s t u target hw hjsr hsp h1 h2
  cases (exec_jsr target s).symm.trans hjsr
  have hword : u.pulledWord = s.pc + 2 := (pulledWord_congr hsp h1 h2).trans (pulledWord_pushWord hw _)
  refine ⟨_, exec_rts u, ?pc, ?sp⟩
  case pc => rw [retire_pc, hword, BitVec.add_assoc]; exact BitVec.toNat_add _ _
  case sp => rw [retire_sp, pullWord_sp, hsp, retire_sp, ← pullWord_sp, pullWord_pushWord_sp]

end Sys2Proof.Machine

namespace Sys2Proof.Machine

open Stated

/-! ### The stack primitives (45_stack_flags_system.md R220) -/

theorem toNat_stackAddr (sp : Byte) : (stackAddr sp).toNat = 256 + sp.toNat := by
  have hsp := sp.isLt
  simp only [stackAddr, BitVec.toNat_add, toNat_zext16, BitVec.reduceToNat]
  omega

theorem storesByte_push {s : State} (hw : s.mem.wf) (v : Byte) :
    StoresByte s (s.push v) (stackByte s.sp.toNat) v := by
  rw [← stackAddr_eq_stackByte]
  exact peek_push hw v

/-- A pull reads the byte the push before it stored. -/
theorem pulled_push {s : State} (hw : s.mem.wf) (v : Byte) : (s.push v).pulled = v := by
  rw [State.pulled, push_sp, BitVec.sub_add_cancel, peek_push hw, if_pos rfl]

theorem pull_push_sp (s : State) (v : Byte) : (s.push v).pull.sp = s.sp := BitVec.sub_add_cancel _ _

theorem push_pull_sp (s : State) (v : Byte) : (s.pull.push v).sp = s.sp := BitVec.add_sub_cancel _ _

/-- A push of the byte just pulled stores it where it was read. -/
theorem peek_pull_push_pulled {s : State} (hw : s.mem.wf) (k : Addr) : (s.pull.push s.pulled).peek k = s.peek k := by
  rw [peek_push (s := s.pull) hw, pull_sp, peek_pull, ite_eq_right_iff]
  rintro rfl
  rfl

/-- Settles O54: `push` is one write and `pull` one read at the address `SP` designates. -/
theorem pullAfterPushReturnsTheByte : Obligations.PullAfterPushReturnsTheByte := by
  intro s v hw
  refine ⟨pulled_push hw v, pull_push_sp s v, storesByte_push hw v, sameRegsBut_push s v, toNat_sub_one s.sp,
    pulled_eq (toNat_sp_mod s), toNat_pull_sp (toNat_sp_mod s), peek_pull s, sameRegsBut_pull s,
    fun k => (peek_pull_push_pulled hw k).symm, push_pull_sp s s.pulled, fun sp => ?_⟩
  have hsp := sp.isLt
  rw [toNat_stackAddr]
  omega

/-! ### PHA, PHP, PLA, PLP (45_stack_flags_system.md R221 to R224) -/

theorem exec_pha (s : State) : exec .pha s = .next (retire (s.pc + 1) (s.push s.a)) := rfl

theorem exec_php (s : State) : exec .php s = .next (retire (s.pc + 1) (s.push s.p.pack)) := rfl

theorem exec_plp (s : State) : exec .plp s = .next (retire (s.pc + 1) (plp s)) := rfl

/-- What an instruction leaves that only pushes a byte. -/
theorem exec_of_push {i : Instr} {s : State} {v : Byte} (h : exec i s = .next (retire (s.pc + 1) (s.push v)))
    (hw : s.mem.wf) :
    ∃ t, exec i s = .next t ∧ StoresByte s t (stackByte s.sp.toNat) v ∧
      t.sp.toNat = (s.sp.toNat + 255) % 256 ∧ SameRegsBut [.SP] s t ∧ t.p = s.p ∧ RetiredPast s t 1 :=
  ⟨_, h, storesByte_push hw v, toNat_sub_one s.sp, sameRegsBut_retire (sameRegsBut_push s v) _, push_p s v,
    retiredPast_of_handles (handles_push s v) 1⟩

/-- Settles O51: PHA pushes A, PHP the packed flags. -/
theorem pushesStoreAndDecrement : Obligations.PushesStoreAndDecrement := fun s _ _ hw =>
  ⟨⟨decode3_opcode (i := .pha) rfl, exec_of_push (exec_pha s) hw⟩,
    decode3_opcode (i := .php) rfl, exec_of_push (exec_php s) hw⟩

/-- Settles O52: PLA is a pull, then a write of A with ZN. -/
theorem plaPullsAAndSetsZN : Obligations.PlaPullsAAndSetsZN := by
  intro s b1 b2
  have hregs : SameRegsBut [.A, .SP] s (pla s) := sameRegsBut_mono (sameRegsBut_pla s) (by simp)
  exact ⟨decode3_opcode (i := .pla) rfl, _, rfl, pulled_eq (toNat_sp_mod s), zn_eq s.p s.pulled,
    toNat_pull_sp (toNat_sp_mod s), sameRegsBut_retire hregs _, sameMemory_retire (pla_mem s) _,
    retiredPast_of_handles (handles_pla s) 1⟩

/-- What PLP pulls is what PHP pushed: retiring PHP touches neither memory nor `SP`. -/
theorem plp_retire_push_pack {s : State} (hw : s.mem.wf) (npc : Addr) :
    (plp (retire npc (s.push s.p.pack))).p = s.p := by
  have hpulled : (retire npc (s.push s.p.pack)).pulled = s.p.pack := pulled_push hw s.p.pack
  rw [plp_p, hpulled, unpack_pack]

/-- Settles O53: PLP unpacks the byte it pulls, and unpacking undoes PHP's packing. -/
theorem plpPullsAllSevenFlags : Obligations.PlpPullsAllSevenFlags := by
  intro s b1 b2
  refine ⟨⟨decode3_opcode (i := .plp) rfl, _, exec_plp s, ?flags, toNat_pull_sp (toNat_sp_mod s),
    sameRegsBut_retire (sameRegsBut_plp s) _, sameMemory_retire (plp_mem s) _,
    retiredPast_of_handles (handles_plp s) 1⟩, fun hw t u hphp hplp => ?inverse⟩
  case flags => rw [retire_p, plp_p, unpack_eq_flagsOfByte, pulled_eq (toNat_sp_mod s)]
  case inverse =>
    cases (exec_php s).symm.trans hphp
    cases (exec_plp _).symm.trans hplp
    exact ⟨plp_retire_push_pack hw _, pull_push_sp s s.p.pack⟩

/-! ### The flag instructions and NOP (45_stack_flags_system.md R225 to R232) -/

theorem exec_of_mem_flagForms {op : Byte} {i : Instr} {f : Flags → Flags} (h : (op, i, f) ∈ flagForms) (s : State) :
    exec i s = advance 1 (fun s => s.setFlags (f s.p)) s :=
  exec_of_mem_forms (fun f => advance 1 (fun s => s.setFlags (f s.p)) s) rfl h

/-- Settles O55: every form is one write of the flags. -/
theorem flagInstructionsWriteOneFlag : Obligations.FlagInstructionsWriteOneFlag := fun s _ _ _ _ f h =>
  ⟨decode3_of_mem_forms rfl h, _, exec_of_mem_flagForms h s, setFlags_p s (f s.p),
    sameRegsBut_retire (sameRegsBut_setFlags s _) _, sameMemory_retire (setFlags_mem s _) _,
    retiredPast_of_handles (handles_setFlags s _) 1⟩

/-- Settles O56: NOP retires with nothing done. -/
theorem nopOnlyAdvances : Obligations.NopOnlyAdvances := fun s _ _ =>
  ⟨decode3_opcode (i := .nop) rfl, _, rfl, retire_p s _, sameRegsBut_retire (fun _ _ => rfl) _,
    sameMemory_retire rfl _, retiredPast_of_handles Handles.rfl 1⟩

/-! ### BRK (45_stack_flags_system.md R236, 60_exceptions.md R243) -/

/-- A `0x00` byte decodes to BRK, whatever follows it. -/
theorem decode3_zero (b1 b2 : Byte) : decode3 T151 0x00 b1 b2 = .ok .brk := decode3_opcode (i := .brk) rfl

theorem fetchDecode_of_peek_zero {s : State} (h : s.peek s.pc = 0x00) : fetchDecode T151 s = .ok .brk := by
  rw [fetchDecode, h, decode3_zero]

/-- An engine that executes a step is past its first `reset()` and not terminal. -/
theorem not_stopped_of_executes {s : State} (h : Executes s) :
    ¬(s.engine = .reset ∧ s.resetDone = false) ∧ s.terminal = false := by
  rcases h with he | ⟨he, hr⟩
  · simp [State.terminal, he]
  · simp [State.terminal, he, hr]

/-- R252: what a step returned is read from the state it left. -/
theorem stepCall_of_stepWith {tbl : OpTable} {s t : State} (h : stepWith tbl s = .next t) :
    stepCall tbl s = .next (t, stepReturn t) := by
  rw [stepCall, h]

/-- R255: an `execute` with one step is that step and the report on the state it left. -/
theorem execute_one_of_stepWith {tbl : OpTable} {s t : State} (hx : Executes s) (h : stepWith tbl s = .next t) :
    execute tbl 1 s = .next (t, report t (retiredCount t)) := by
  obtain ⟨hreset, hterm⟩ := not_stopped_of_executes hx
  simp [execute, executeLoop, hreset, hterm, h]

/-- Settles O10: BRK is `halt`, whose signal the step returns and `execute` reports. -/
theorem brkHalts : Obligations.BrkHalts := by
  refine ⟨fun s => ⟨_, exec_brk s, rfl⟩, decode3_zero, fun s hx hbyte => ?_⟩
  have hstep : stepWith T151 s = .next (halt { s with engine := .running }) :=
    stepWith_of_decoded hx (fetchDecode_of_peek_zero hbyte)
  exact ⟨_, stepCall_of_stepWith hstep, rfl, rfl, sameRegisterFile_enterTerminal _ _, rfl,
    execute_one_of_stepWith hx hstep⟩

end Sys2Proof.Machine

namespace Sys2Proof

/-! ### Ill-formed entries (30_encoding.md R90) -/

/-- R90: the three ways for an entry to be ill formed. -/
theorem entry_not_wf {e : Entry}
    (h : e.mode = none ∨ ∃ m, e.mode = some m ∧ (e.length ≠ m.len ∨ m ∉ e.mnemonic.modes)) : e.wf = false := by
  refine Bool.eq_false_of_not_eq_true fun hw => ?_
  obtain ⟨m, hm, hlen, hmode⟩ := (entry_wf_iff e).1 hw
  rcases h with hnone | ⟨m', hm', hbad⟩
  · cases hm.symm.trans hnone
  · cases hm.symm.trans hm'
    exact hbad.elim (absurd hlen) (absurd hmode)

theorem decode3_of_not_wf {tbl : OpTable} {op : Byte} {e : Entry} (hl : tbl.lookup op = some e) (hw : e.wf = false)
    (b1 b2 : Byte) : decode3 tbl op b1 b2 = .error .invalidOperand := by
  simp [decode3, hl, hw]

/-- In a well-formed table every entry that a lookup finds is well formed. -/
theorem decode3_ne_invalidOperand {tbl : OpTable} (h : tbl.wf = true) (op b1 b2 : Byte) :
    decode3 tbl op b1 b2 ≠ .error .invalidOperand := by
  intro hd
  rcases decode3_cases tbl op b1 b2 with ⟨-, hd'⟩ | ⟨e, hl, hw, -⟩ | ⟨e, i, -, -, -, hd'⟩
  · cases hd'.symm.trans hd
  · have hall : tbl.all Entry.wf = true := (Bool.and_eq_true_iff.1 h).1
    exact Bool.false_ne_true (hw.symm.trans (List.all_eq_true.1 hall e (lookup_mem hl).1))
  · cases hd'.symm.trans hd

end Sys2Proof

namespace Sys2Proof.Machine

open Stated

/-! ### The engine's states (60_exceptions.md R240 to R252) -/

theorem terminal_iff {s : State} : s.terminal = true ↔ s.engine = .halted ∨ s.engine = .faulted := by
  unfold State.terminal
  cases s.engine <;> simp

theorem terminal_of_signal {s : State} {sig : Signal} (h : s.engine = sig.engineState) : s.terminal = true :=
  terminal_iff.2 <| match sig with
    | .halt _ => .inl h
    | .fault _ => .inr h

/-- R240: after the first `reset()` an engine executes a step or is terminal. -/
theorem executes_or_terminal {s : State} (h : ¬(s.engine = .reset ∧ s.resetDone = false)) :
    Executes s ∨ s.terminal = true := by
  cases he : s.engine with
  | reset => exact .inl (.inr ⟨he, Bool.eq_true_of_not_eq_false fun hr => h ⟨he, hr⟩⟩)
  | running => exact .inl (.inl he)
  | halted => exact .inr (terminal_iff.2 (.inl he))
  | faulted => exact .inr (terminal_iff.2 (.inr he))

theorem not_before_reset_of_terminal {s : State} (h : s.terminal = true) :
    ¬(s.engine = .reset ∧ s.resetDone = false) := fun ⟨he, _⟩ => by
  simp [State.terminal, he] at h

/-- R244: a step in a terminal state changes nothing. -/
theorem stepWith_of_terminal {s : State} (h : s.terminal = true) (tbl : OpTable) : stepWith tbl s = .next s := by
  rcases terminal_iff.1 h with he | he <;> rw [stepWith, he]

theorem exists_stepWith_of_executes {s : State} (hx : Executes s) (tbl : OpTable) : ∃ t, stepWith tbl s = .next t := by
  rw [stepWith_of_executes hx]
  rcases stepRunning_cases { s with engine := .running } tbl with ⟨_, h⟩ | ⟨-, h⟩ | ⟨_, _, -, h⟩ <;> exact ⟨_, h⟩

/-- What the engine and the stream are after a step that executes: an instruction retired, or a signal entered. -/
theorem stepWith_record {tbl : OpTable} {s t : State} (hx : Executes s) (h : stepWith tbl s = .next t) :
    (t.engine = .running ∧ t.term = s.term ∧ t.events = s.events ++ [.snapshot t.snapshot]) ∨
    ∃ sig, t.engine = sig.engineState ∧ t.term = some sig ∧ t.events = s.events ++ [sig.event] := by
  rcases stepIsAllOrNothing tbl s t hx h with ⟨he, hterm, hev, -⟩ | ⟨sig, hterm, hev, hkind, -⟩
  · exact .inl ⟨he, hterm, hev⟩
  · refine .inr ⟨sig, ?_, hterm, hev⟩
    rcases hkind with ⟨he, rfl⟩ | ⟨he, k, rfl⟩
    · exact he
    · exact he

/-- A step that executes leaves an engine that is running or terminal. -/
theorem executes_or_terminal_of_stepWith {tbl : OpTable} {s t : State} (hx : Executes s)
    (h : stepWith tbl s = .next t) : Executes t ∨ t.terminal = true := by
  rcases stepWith_record hx h with ⟨he, -⟩ | ⟨sig, he, -⟩
  · exact .inl (.inl he)
  · exact .inr (terminal_of_signal he)

/-- Settles O7: both steps run the engine made `Running`, and none of a step's ends is `Reset`. -/
theorem armedEngineStepsAsRunning : Obligations.ArmedEngineStepsAsRunning := by
  intro tbl s he hr
  have hx : Executes s := .inr ⟨he, hr⟩
  refine ⟨(stepWith_of_executes hx tbl).trans (stepWith_of_running rfl tbl).symm, fun t hstep hreset => ?_⟩
  rcases stepWith_record hx hstep with ⟨hrun, -⟩ | ⟨sig, hsig, -⟩
  · cases hrun.symm.trans hreset
  · cases sig <;> cases hsig.symm.trans hreset

/-! ### Faults (60_exceptions.md R245, R246) -/

/-- A rejected byte: the fault is stored, emitted and returned, and nothing else changes. -/
theorem stepCall_of_rejected {tbl : OpTable} {s : State} {k : FaultKind} (hx : Executes s)
    (h : fetchDecode tbl s = .error k) :
    ∃ t, stepCall tbl s = .next (t, .fault ⟨k, s.peek s.pc, s.pc⟩) ∧ stepWith tbl s = .next t ∧
      t = { s with
        engine := .faulted
        term := some (.fault ⟨k, s.peek s.pc, s.pc⟩)
        events := s.events ++ [.fault ⟨k, s.peek s.pc, s.pc⟩] } :=
  have hstep := stepWith_of_rejected hx h
  ⟨_, stepCall_of_stepWith hstep, hstep, rfl⟩

/-- Settles O8: a byte without an entry is rejected as unknown. -/
theorem unknownOpcodeFaults : Obligations.UnknownOpcodeFaults := fun tbl _ hx hl =>
  stepCall_of_rejected hx ((lookup_eq_none_iff_decode3 tbl _ _ _).1 hl)

/-- Settles O9: an ill-formed entry is rejected as such, and neither table has one. -/
theorem illFormedEntryFaults : Obligations.IllFormedEntryFaults :=
  ⟨fun _ _ _ hx hl hbad => stepCall_of_rejected hx (decode3_of_not_wf hl (entry_not_wf hbad) _ _), fun op b1 b2 =>
    ⟨decode3_ne_invalidOperand T151_wf op b1 b2, decode3_ne_invalidOperand (by decide) op b1 b2⟩⟩

/-! ### What ends a run under `T151` (60_exceptions.md R266) -/

theorem zero_notMem_unknownBytes : (0x00 : Byte).toNat ∉ unknownBytes := by decide

/-- The byte at `pc` decides how a step ends: on BRK's byte it halts, on an unknown byte it faults, on any other byte the
engine runs on. -/
theorem step_ends {s t : State} (hx : Executes s) (hstep : step s = .next t) :
    (t.engine = .halted ∧ s.peek s.pc = 0x00 ∧ (s.peek s.pc).toNat ∉ unknownBytes) ∨
    (t.engine = .faulted ∧ s.peek s.pc ≠ 0x00 ∧ (s.peek s.pc).toNat ∈ unknownBytes) ∨
    (t.engine = .running ∧ s.peek s.pc ≠ 0x00 ∧ (s.peek s.pc).toNat ∉ unknownBytes) := by
  cases hfetch : fetchDecode T151 s with
  | error k =>
    cases (stepWith_of_rejected hx hfetch).symm.trans hstep
    have hk : k = .unknownOpcode := by
      cases k with
      | unknownOpcode => rfl
      | invalidOperand => exact absurd hfetch (decode3_ne_invalidOperand T151_wf _ _ _)
    have hunknown : (s.peek s.pc).toNat ∈ unknownBytes :=
      (lookup_T151_eq_none_iff _).1 ((lookup_eq_none_iff_decode3 T151 _ _ _).2 (hk ▸ hfetch))
    exact .inr (.inl ⟨rfl, fun h0 => zero_notMem_unknownBytes (h0 ▸ hunknown), hunknown⟩)
  | ok i =>
    obtain ⟨hl, -⟩ := decode3_eq_ok_iff.1 hfetch
    have hknown : (s.peek s.pc).toNat ∉ unknownBytes := fun hu => by
      cases hl.symm.trans ((lookup_T151_eq_none_iff _).2 hu)
    have hexec : exec i { s with engine := .running } = .next t := (stepWith_of_decoded hx hfetch).symm.trans hstep
    rcases exec_cases { s with engine := .running } i with ⟨rfl, hhalt⟩ | ⟨hi, npc, u, hu, hretire⟩
    · cases hhalt.symm.trans hexec
      exact .inl ⟨rfl, eq_opcode_of_lookup hl, hknown⟩
    · cases hretire.symm.trans hexec
      refine .inr (.inr ⟨hu.engine, fun h0 => hi ?_, hknown⟩)
      exact Except.ok.inj (hfetch.symm.trans (fetchDecode_of_peek_zero h0))

/-- Settles O14: the three ends exclude each other, on both sides. -/
theorem onlyBrkAndUnknownBytesEndARun : Obligations.OnlyBrkAndUnknownBytesEndARun := by
  intro s t hx hstep
  rcases step_ends hx hstep with ⟨he, h0, hu⟩ | ⟨he, h0, hu⟩ | ⟨he, h0, hu⟩
  · exact ⟨iff_of_true he h0, iff_of_false (by simp [he]) hu, iff_of_false (by simp [he]) fun h => h.1 h0⟩
  · exact ⟨iff_of_false (by simp [he]) h0, iff_of_true he hu, iff_of_false (by simp [he]) fun h => h.2 hu⟩
  · exact ⟨iff_of_false (by simp [he]) h0, iff_of_false (by simp [he]) hu, iff_of_true he ⟨h0, hu⟩⟩

/-! ### The loop of `execute` (60_exceptions.md R255) -/

theorem executeLoop_of_terminal {s : State} (h : s.terminal = true) (tbl : OpTable) (n k : Nat) :
    executeLoop tbl n k s = .next (s, k) := by
  cases n with
  | zero => rfl
  | succ n => exact if_pos h

theorem executeLoop_of_stepWith {tbl : OpTable} {s t : State} (hs : s.terminal = false) (h : stepWith tbl s = .next t)
    (n k : Nat) : executeLoop tbl (n + 1) k s = executeLoop tbl n (k + retiredCount t) t := by
  simp [executeLoop, hs, h]

/-- A loop that ends well ended at once on a terminal engine, or made a step and went on. -/
theorem executeLoop_succ_cases {tbl : OpTable} {n k c : Nat} {s t : State}
    (h : executeLoop tbl (n + 1) k s = .next (t, c)) :
    (s.terminal = true ∧ t = s ∧ c = k) ∨
    ∃ u, s.terminal = false ∧ stepWith tbl s = .next u ∧ executeLoop tbl n (k + retiredCount u) u = .next (t, c) := by
  cases hs : s.terminal with
  | true =>
    cases (executeLoop_of_terminal hs tbl (n + 1) k).symm.trans h
    exact .inl ⟨rfl, rfl, rfl⟩
  | false =>
    cases hstep : stepWith tbl s with
    | next u => exact .inr ⟨u, rfl, rfl, executeLoop_of_stepWith hs hstep n k ▸ h⟩
    | fault f => simp [executeLoop, hs, hstep] at h
    | refused r => simp [executeLoop, hs, hstep] at h

/-- What every step keeps, the loop keeps. -/
theorem executeLoop_keeps {tbl : OpTable} {P : State → Prop} (hP : ∀ s t, P s → stepWith tbl s = .next t → P t)
    {n k c : Nat} {s t : State} (hs : P s) (h : executeLoop tbl n k s = .next (t, c)) : P t := by
  induction n generalizing s k with
  | zero => cases h; exact hs
  | succ n ih =>
    rcases executeLoop_succ_cases h with ⟨-, rfl, -⟩ | ⟨u, -, hstep, hloop⟩
    · exact hs
    · exact ih (hP s u hs hstep) hloop

/-- A loop can be cut anywhere: the second part goes on with the first part's machine and count. -/
theorem executeLoop_add {tbl : OpTable} {m k c : Nat} {s t : State} (h : executeLoop tbl m k s = .next (t, c))
    (n : Nat) : executeLoop tbl (m + n) k s = executeLoop tbl n c t := by
  induction m generalizing s k with
  | zero => cases h; rw [Nat.zero_add]
  | succ m ih =>
    rcases executeLoop_succ_cases h with ⟨hs, rfl, rfl⟩ | ⟨u, hs, hstep, hloop⟩
    · rw [executeLoop_of_terminal hs, executeLoop_of_terminal hs]
    · rw [Nat.succ_add, executeLoop_of_stepWith hs hstep, ih hloop]

/-- The count so far is carried along and not looked at. -/
theorem executeLoop_count {tbl : OpTable} {n k c : Nat} {s t : State} (h : executeLoop tbl n k s = .next (t, c))
    (j : Nat) : executeLoop tbl n (j + k) s = .next (t, j + c) := by
  induction n generalizing s k with
  | zero => cases h; rfl
  | succ n ih =>
    rcases executeLoop_succ_cases h with ⟨hs, rfl, rfl⟩ | ⟨u, hs, hstep, hloop⟩
    · exact executeLoop_of_terminal hs tbl _ _
    · rw [executeLoop_of_stepWith hs hstep, Nat.add_assoc, ih hloop]

/-- R248, R255: `execute` is the loop from the count 0, and the report on the state it ends in. -/
theorem execute_eq_next_iff {tbl : OpTable} {n : Nat} {s t : State} {r : TerminationReport} :
    execute tbl n s = .next (t, r) ↔
      ¬(s.engine = .reset ∧ s.resetDone = false) ∧ ∃ c, executeLoop tbl n 0 s = .next (t, c) ∧ r = report t c := by
  rw [execute]
  split
  next h => exact ⟨(nomatch ·), fun ⟨hn, _⟩ => absurd h hn⟩
  next h =>
    cases executeLoop tbl n 0 s with
    | next p =>
      obtain ⟨t', c⟩ := p
      simp only [Host.Outcome.next.injEq, Prod.mk.injEq]
      constructor
      · rintro ⟨rfl, rfl⟩
        exact ⟨h, c, ⟨rfl, rfl⟩, rfl⟩
      · rintro ⟨-, _, ⟨rfl, rfl⟩, rfl⟩
        exact ⟨rfl, rfl⟩
    | fault f => exact ⟨(nomatch ·), fun ⟨_, _, hl, _⟩ => nomatch hl⟩
    | refused q => exact ⟨(nomatch ·), fun ⟨_, _, hl, _⟩ => nomatch hl⟩

theorem execute_of_terminal {s : State} (h : s.terminal = true) (tbl : OpTable) (n : Nat) :
    execute tbl n s = .next (s, ⟨s.engine, 0, s.snapshot, s.term⟩) := by
  refine execute_eq_next_iff.2 ⟨not_before_reset_of_terminal h, 0, executeLoop_of_terminal h tbl n 0, ?_⟩
  rw [report, if_pos h]

/-- Settles O21: the two loops are one, whose second part starts from the count of the first. -/
theorem executeContinues : Obligations.ExecuteContinues := by
  intro tbl m n s t u r r' h h'
  obtain ⟨hs, c, hloop, rfl⟩ := execute_eq_next_iff.1 h
  obtain ⟨-, c', hloop', rfl⟩ := execute_eq_next_iff.1 h'
  have hall : executeLoop tbl (m + n) 0 s = .next (u, c + c') :=
    (executeLoop_add hloop n).trans (executeLoop_count hloop' c)
  exact execute_eq_next_iff.2 ⟨hs, c + c', hall, rfl⟩

/-- Settles O12: before the first `reset()` each call tests for it first; after it an engine executes or is terminal. -/
theorem noTransitionExactlyBeforeReset : Obligations.NoTransitionExactlyBeforeReset := by
  refine ⟨fun tbl s he hr => ?_, fun tbl s h => ?_⟩
  · have hstep : stepWith tbl s = .refused .stepBeforeReset := by simp [stepWith, he, hr]
    exact ⟨hstep, by rw [stepCall, hstep], fun n => if_pos ⟨he, hr⟩⟩
  · rcases executes_or_terminal h with hx | hterm
    · exact exists_stepWith_of_executes hx tbl
    · exact ⟨s, stepWith_of_terminal hterm tbl⟩

/-! ### The host's calls (60_exceptions.md R244, R257 to R261) -/

/-- Settles O27: `debugSetPC` is `setPc` of the truncated address. -/
theorem debugSetPcWritesPcAlone : Obligations.DebugSetPcWritesPcAlone := fun address _ =>
  ⟨BitVec.toNat_ofNat address 16, rfl⟩

/-- R54, R284: a load replaces memory, and a failing one leaves it. -/
theorem hostCall_loadProgram (tbl : OpTable) (wrap : Bool) (bytes : List Nat) (start : Addr) (s : State) :
    hostCall tbl (.loadProgram wrap bytes start) s =
      { s with mem := (s.mem.loadBlock wrap bytes start).getD s.mem } := by
  simp only [hostCall, loadProgram]
  cases s.mem.loadBlock wrap bytes start <;> rfl

theorem hostCall_step_of_next {tbl : OpTable} {s t : State} (h : stepWith tbl s = .next t) :
    hostCall tbl .step s = t := by
  simp only [hostCall, h]

theorem hostCall_execute_of_next {tbl : OpTable} {n : Nat} {s t : State} {r : TerminationReport}
    (h : execute tbl n s = .next (t, r)) : hostCall tbl (.execute n) s = t := by
  simp only [hostCall, h]

/-- What every step keeps, the calls `step` and `execute` keep, refused or not. -/
theorem hostCall_step_keeps {tbl : OpTable} {P : State → Prop} (hP : ∀ s t, P s → stepWith tbl s = .next t → P t)
    {s : State} (hs : P s) : P (hostCall tbl .step s) := by
  cases h : stepWith tbl s with
  | next t => exact hostCall_step_of_next h ▸ hP s t hs h
  | fault f => simpa only [hostCall, h] using hs
  | refused r => simpa only [hostCall, h] using hs

theorem hostCall_execute_keeps {tbl : OpTable} {P : State → Prop} (hP : ∀ s t, P s → stepWith tbl s = .next t → P t)
    {s : State} (hs : P s) (n : Nat) : P (hostCall tbl (.execute n) s) := by
  cases h : execute tbl n s with
  | next p =>
    obtain ⟨t, r⟩ := p
    obtain ⟨-, c, hloop, -⟩ := execute_eq_next_iff.1 h
    exact hostCall_execute_of_next h ▸ executeLoop_keeps hP hs hloop
  | fault f => simpa only [hostCall, h] using hs
  | refused r => simpa only [hostCall, h] using hs

/-- Settles O11: in a terminal state `step` and `execute` leave the machine, and the loads and `debugSetPC` never touch the
engine. -/
theorem terminalStatesStay : Obligations.TerminalStatesStay := by
  intro tbl s hengine
  have hterm : s.terminal = true := terminal_iff.2 hengine
  have hstep := stepWith_of_terminal hterm tbl
  refine ⟨hstep, fun sig hsig => ?_, execute_of_terminal hterm tbl, fun c hc => ?_, rfl⟩
  · rw [stepCall_of_stepWith hstep, stepReturn, hsig]
  · cases c with
    | loadProgram wrap bytes start => rw [hostCall_loadProgram]; exact ⟨rfl, rfl⟩
    | reset => exact absurd rfl hc
    | debugSetPC address => exact ⟨rfl, rfl⟩
    | step => rw [hostCall_step_of_next hstep]; exact ⟨rfl, rfl⟩
    | execute n => rw [hostCall_execute_of_next (execute_of_terminal hterm tbl n)]; exact ⟨rfl, rfl⟩

/-! ### The invariant over host calls (60_exceptions.md R259, R261) -/

/-- The invariant looks at memory, the engine and the stream: a load keeps the first canonical, `debugSetPC` writes none of
them, `reset()` removes the signal, and `step` and `execute` are steps. -/
theorem hostCall_keeps_inv (tbl : OpTable) (c : HostCall) {s : State} (h : Inv s) : Inv (hostCall tbl c s) := by
  have hstep : ∀ s t, Inv s → stepWith tbl s = .next t → Inv t := fun _ _ => stepWith_keeps_inv
  obtain ⟨hwf, hcoherent⟩ := h
  cases c with
  | loadProgram wrap bytes start =>
    rw [hostCall_loadProgram]
    refine ⟨?_, hcoherent⟩
    cases hload : s.mem.loadBlock wrap bytes start with
    | none => exact hwf
    | some m => exact wf_loadBlock hwf hload
  | reset => exact ⟨hwf, rfl, nofun⟩
  | debugSetPC address => exact ⟨hwf, hcoherent⟩
  | step => exact hostCall_step_keeps hstep ⟨hwf, hcoherent⟩
  | execute n => exact hostCall_execute_keeps hstep ⟨hwf, hcoherent⟩ n

theorem inv_constructed {memInit : Memory} (hw : memInit.wf) : Inv (State.constructed memInit) := ⟨hw, rfl, nofun⟩

theorem inv_of_reachable {tbl : OpTable} {memInit : Memory} (hw : memInit.wf) {s : State}
    (h : Reachable tbl memInit s) : Inv s := by
  induction h with
  | constructed => exact inv_constructed hw
  | call s c _ ih => exact hostCall_keeps_inv tbl c ih

/-- R42: BRK is the only reason to halt. -/
theorem term_of_inv_halted {s : State} (h : Inv s) (he : s.engine = .halted) :
    ∃ pc, s.term = some (.halt ⟨.BRK, pc⟩) := by
  obtain ⟨-, hengine, -⟩ := h
  simp only [he] at hengine
  obtain ⟨⟨⟨⟨⟩, pc⟩, hterm⟩, -⟩ := hengine
  exact ⟨pc, hterm⟩

theorem term_of_inv_faulted {s : State} (h : Inv s) (he : s.engine = .faulted) : ∃ f, s.term = some (.fault f) := by
  obtain ⟨-, hengine, -⟩ := h
  simp only [he] at hengine
  exact hengine.1

/-- Settles O17: construction gives the invariant, every call keeps it, and it says what a stopped engine stores. -/
theorem invHoldsInEveryReachableState : Obligations.InvHoldsInEveryReachableState := by
  refine ⟨fun tbl c s => hostCall_keeps_inv tbl c, fun _ => inv_constructed, fun tbl memInit s hw hreach => ?_⟩
  have hinv := inv_of_reachable hw hreach
  exact ⟨hinv, term_of_inv_halted hinv, term_of_inv_faulted hinv⟩

/-! ### The event stream (60_exceptions.md R258) -/

theorem term_of_executes {s : State} (h : EngineCoherent s) (hx : Executes s) : s.term = none := by
  obtain ⟨hengine, -⟩ := h
  rcases hx with he | ⟨he, -⟩
  · simp only [he] at hengine
    exact hengine.1
  · simpa only [he] using hengine

/-- R252: where no signal was stored before, the value a step returns is the record it emits. -/
theorem events_of_stepWith {tbl : OpTable} {s t : State} (hx : Executes s) (hterm : s.term = none)
    (h : stepWith tbl s = .next t) : t.events = s.events ++ [stepReturn t] := by
  rcases stepWith_record hx h with ⟨-, ht, hev⟩ | ⟨sig, -, ht, hev⟩
  · rw [hev, stepReturn, ht, hterm]
  · rw [hev, stepReturn, ht]

theorem events_prefix_of_stepWith {tbl : OpTable} {s t : State} (h : stepWith tbl s = .next t) :
    s.events <+: t.events := by
  by_cases hreset : s.engine = .reset ∧ s.resetDone = false
  · cases h.symm.trans (noTransitionExactlyBeforeReset.1 tbl s hreset.1 hreset.2).1
  · rcases executes_or_terminal hreset with hx | hterm
    · rcases stepWith_record hx h with ⟨-, -, hev⟩ | ⟨sig, -, -, hev⟩ <;> exact hev ▸ List.prefix_append _ _
    · cases h.symm.trans (stepWith_of_terminal hterm tbl)
      exact List.prefix_rfl

/-- Settles O18: the three calls that are not runs leave the stream, and a run is made of steps that extend it. -/
theorem streamGrowsByWhatAStepReturns : Obligations.StreamGrowsByWhatAStepReturns := by
  intro tbl s hcoherent
  refine ⟨fun hx => ?_, fun hterm t hstep => ?_, fun c hc hc' => ?_, fun n => ?_⟩
  · obtain ⟨t, hstep⟩ := exists_stepWith_of_executes hx tbl
    exact ⟨t, _, stepCall_of_stepWith hstep, events_of_stepWith hx (term_of_executes hcoherent hx) hstep⟩
  · cases hstep.symm.trans (stepWith_of_terminal hterm tbl)
    rfl
  · cases c with
    | loadProgram wrap bytes start => rw [hostCall_loadProgram]
    | reset => rfl
    | debugSetPC address => rfl
    | step => exact absurd rfl hc
    | execute n => exact absurd rfl (hc' n)
  · exact hostCall_execute_keeps (P := fun t => s.events <+: t.events)
      (fun _ _ hpre hstep => hpre.trans (events_prefix_of_stepWith hstep)) List.prefix_rfl n

/-! ### Iterated steps (60_exceptions.md R255, R258) -/

theorem run_of_step {s t : State} (h : stepWith T151 s = .next t) (n : Nat) :
    Host.Core.run core (n + 1) s = Host.Core.run core n t := by
  have hstep : core.step s = .next t := h
  simp only [Host.Core.run, hstep]

theorem run_of_terminal {s : State} (h : s.terminal = true) (n : Nat) : Host.Core.run core n s = .next s := by
  induction n with
  | zero => rfl
  | succ n ih => rw [run_of_step (stepWith_of_terminal h T151), ih]

/-- Settles O19, by induction on the steps: each puts a Snapshot in front, until one emits the signal and the steps after it
change nothing. -/
theorem aRunEmitsSnapshotsThenItsSignal : Obligations.ARunEmitsSnapshotsThenItsSignal := by
  intro n
  induction n with
  | zero =>
    intro s t _ hterm hrun
    cases hrun
    exact ⟨[], by simp [hterm], fun _ => rfl, fun h => absurd hterm h⟩
  | succ n ih =>
    intro s t hx hterm hrun
    obtain ⟨u, hstep⟩ := exists_stepWith_of_executes hx T151
    rw [run_of_step hstep] at hrun
    rcases stepWith_record hx hstep with ⟨he, hu, hev⟩ | ⟨sig, he, hu, hev⟩
    · obtain ⟨snaps, hevents, hgoes, hstops⟩ := ih u t (.inl he) (hu.trans hterm) hrun
      refine ⟨u.snapshot :: snaps, ?_, fun h => congrArg (· + 1) (hgoes h), fun h => Nat.succ_lt_succ (hstops h)⟩
      simp [hevents, hev]
    · cases (run_of_terminal (terminal_of_signal he) n).symm.trans hrun
      exact ⟨[], by simp [hev, hu], fun h => (nomatch hu.symm.trans h), fun _ => Nat.succ_pos n⟩

/-- R255: a step's contribution to the count is that of the record it emits. -/
theorem exists_event_of_stepWith {tbl : OpTable} {s t : State} (hx : Executes s) (h : stepWith tbl s = .next t) :
    ∃ e, t.events = s.events ++ [e] ∧ retiredCount t = retiredIn [e] := by
  rcases stepWith_record hx h with ⟨he, -, hev⟩ | ⟨sig, he, -, hev⟩
  · exact ⟨_, hev, by rw [retiredCount, he]; rfl⟩
  · refine ⟨_, hev, ?_⟩
    rw [retiredCount, he]
    cases sig <;> rfl

/-- The loop of `execute` is the run, with the records the run emitted counted. -/
theorem executeLoop_eq_run (n : Nat) {s : State} (h : Executes s ∨ s.terminal = true) :
    ∃ (t : State) (es : List Event), Host.Core.run core n s = .next t ∧ t.events = s.events ++ es ∧ es.length ≤ n ∧
      ∀ k, executeLoop T151 n k s = .next (t, k + retiredIn es) := by
  induction n generalizing s with
  | zero => exact ⟨s, [], rfl, (List.append_nil _).symm, Nat.le_refl 0, fun _ => rfl⟩
  | succ n ih =>
    rcases h with hx | hterm
    · obtain ⟨u, hstep⟩ := exists_stepWith_of_executes hx T151
      obtain ⟨e, hev, hcount⟩ := exists_event_of_stepWith hx hstep
      obtain ⟨t, es, hrun, hevents, hlen, hloop⟩ := ih (executes_or_terminal_of_stepWith hx hstep)
      refine ⟨t, e :: es, (run_of_step hstep n).trans hrun, by simp [hevents, hev], Nat.succ_le_succ hlen, fun k => ?_⟩
      have hadd : retiredIn (e :: es) = retiredIn [e] + retiredIn es := List.countP_append (l₁ := [e])
      rw [executeLoop_of_stepWith (not_stopped_of_executes hx).2 hstep, hloop, hcount, hadd, Nat.add_assoc]
    · exact ⟨s, [], run_of_terminal hterm _, (List.append_nil _).symm, Nat.zero_le _,
        executeLoop_of_terminal hterm T151 _⟩

/-- Settles O20: the loop is the run, and the report reads the state it ends in. -/
theorem executeIsRepeatedStep : Obligations.ExecuteIsRepeatedStep := by
  intro n s hs
  obtain ⟨t, es, hrun, hevents, hlen, hloop⟩ := executeLoop_eq_run n (executes_or_terminal hs)
  refine ⟨t, es, hrun, hevents, hlen, execute_eq_next_iff.2 ⟨hs, _, hloop 0, ?_⟩⟩
  simp only [report, terminal_iff, Nat.zero_add]

end Sys2Proof.Machine

namespace Sys2Proof.Machine

open Stated

/-! ### Loading and `reset()` (70_reset_and_hazards.md R280 to R284) -/

/-- Settles O26: both calls answer what `loadBlock` does. -/
theorem loadProgramWritesMemoryAlone : Obligations.LoadProgramWritesMemoryAlone := by
  intro tbl wrap bytes start s
  refine ⟨loadBlock_eq_none_iff, fun m hload => ⟨?_, ?_⟩, fun hload => ⟨?_, ?_⟩⟩
  · rw [loadProgram, hload]
  · rw [hostCall_loadProgram, hload, Option.getD_some]
  · rw [loadProgram, hload]
  · rw [hostCall_loadProgram, hload, Option.getD_none]

/-- R280: of the machine before it, `reset()` leaves memory and the stream, and reads the vector. -/
theorem engineReset_eq (s : State) :
    engineReset s =
      { State.reset with pc := s.peekWord Config.resetVector, mem := s.mem, events := s.events } := rfl

/-- A word read at an address, on numbers, by the two bytes as `peek` reads them (R53). -/
theorem toNat_peekWord_eq_peek (s : State) (k : Addr) :
    (s.peekWord k).toNat = (s.peek k).toNat + 256 * (s.peek (k + 1)).toNat := by
  rw [peekWord_eq, toNat_join]

theorem peekWord_resetVector (s : State) :
    s.peekWord Config.resetVector = join (s.peek 0xFFFD) (s.peek 0xFFFC) := peekWord_eq s Config.resetVector

/-- Settles O22: `pc` is the word at the vector, the other fields are constants or kept. -/
theorem resetSetsTheRegisterFile : Obligations.ResetSetsTheRegisterFile := fun s =>
  ⟨_, rfl, toNat_peekWord_eq_peek s Config.resetVector, rfl, rfl, rfl, rfl, rfl, rfl, rfl, rfl, rfl, rfl, fun vector =>
    ⟨_, rfl, toNat_peekWord_eq_peek s vector, rfl⟩⟩

/-- Settles O23: `reset()` keeps the memory it reads the vector from, and the vector is two bytes. -/
theorem resetDependsOnTheVectorAlone : Obligations.ResetDependsOnTheVectorAlone := by
  refine ⟨fun _ => rfl, fun s s' hlo hhi => ?_⟩
  have hvector : s'.peekWord Config.resetVector = s.peekWord Config.resetVector := by
    rw [peekWord_resetVector, peekWord_resetVector, hlo, hhi]
  rw [engineReset_eq s', engineReset_eq s, hvector]

/-! ### Launching (70_reset_and_hazards.md R285 to R287) -/

/-- With wrapping allowed both loads of a launch have a next state. -/
theorem exists_launch_wrap (program : List Nat) (entry : Addr) (memInit : Memory) :
    ∃ s, launch true program entry memInit = .next s := by
  simp only [launch, loadProgram_wrap, andThen_next]
  exact ⟨_, rfl⟩

/-- A word determines the two bytes it was read from (R53). -/
theorem peek_of_peekWord {s : State} {k w : Addr} (h : s.peekWord k = w) :
    s.peek k = loByte w ∧ s.peek (k + 1) = hiByte w := by
  rw [← h, peekWord_eq, loByte_join, hiByte_join]
  exact ⟨rfl, rfl⟩

section
variable {wrap : Bool} {program : List Nat} {entry : Addr} {s : State}

theorem eq_reset_of_launched (h : Launched wrap program entry s) :
    s = { State.reset with pc := entry, mem := s.mem } := by
  obtain ⟨memInit, -, rfl⟩ := launched_cases h
  rfl

theorem wf_of_launched (h : Launched wrap program entry s) : s.mem.wf := by
  obtain ⟨memInit, hw, rfl⟩ := launched_cases h
  exact wf_copyBlock (wf_copyBlock hw _ _) _ _

/-- The vector is loaded last, so it stands in any launched machine. -/
theorem peekWord_resetVector_of_launched (h : Launched wrap program entry s) :
    s.peekWord Config.resetVector = entry := by
  obtain ⟨memInit, hw, rfl⟩ := launched_cases h
  exact readWord_vectorBytes (wf_copyBlock hw _ _) entry

/-- A program that ends below the vector is as it was loaded. -/
theorem peek_program_of_launched (h : Launched wrap program entry s) (hend : entry.toNat + program.length ≤ 0xFFFC)
    {i : Nat} (hi : i < program.length) :
    s.peek (BitVec.ofNat 16 (entry.toNat + i)) = BitVec.ofNat 8 program[i] := by
  obtain ⟨memInit, hw, rfl⟩ := launched_cases h
  have haddr : (BitVec.ofNat 16 (entry.toNat + i)).toNat = entry.toNat + i :=
    (BitVec.toNat_ofNat _ 16).trans (Nat.mod_eq_of_lt (by omega))
  have hvector : ∀ j, j < (vectorBytes entry).length →
      (Config.resetVector.toNat + j) % Config.memorySize ≠ (entry.toNat + i) % Config.memorySize := by
    simp only [vectorBytes, List.length_cons, List.length_nil, Config.resetVector, Config.memorySize,
      BitVec.reduceToNat]
    omega
  have hlast : ∀ j, i < j → j < program.length →
      (entry.toNat + j) % Config.memorySize ≠ (entry.toNat + i) % Config.memorySize := by
    simp only [Config.memorySize]
    omega
  rw [State.peek, haddr, readByte_copyBlock_outside (wf_copyBlock hw _ _) hvector,
    readByte_copyBlock_inside hw hi hlast]

end

/-! ### The canonical program under an admissible table (R87, R287) -/

/-- An admissible table has the two entries of the least table. -/
theorem lookup_of_admissible {tbl : OpTable} (h : tbl.admissible = true) :
    tbl.lookup 0x00 = some ⟨0x00, .BRK, some .imp, 1⟩ ∧ tbl.lookup 0xA9 = some ⟨0xA9, .LDA, some .imm, 2⟩ := by
  simp only [OpTable.admissible, Bool.and_eq_true, decide_eq_true_eq] at h
  obtain ⟨⟨⟨hwf, hbrk⟩, hlda⟩, -⟩ := h
  exact ⟨lookup_of_mem hwf hbrk, lookup_of_mem hwf hlda⟩

/-- What LDA immediate at `pc` leaves of an engine that executes it (R130): its operand byte in `A`, and `pc` past it. -/
def afterLda (s : State) : State :=
  retire (s.pc + 2) (State.setRegZN { s with engine := .running } .A (s.peek (s.pc + 1)))

theorem peek_afterLda (s : State) (k : Addr) : (afterLda s).peek k = s.peek k := peek_congr rfl k

theorem stepWith_of_peek_lda {tbl : OpTable} {s : State} (htbl : tbl.admissible = true) (hx : Executes s)
    (h : s.peek s.pc = 0xA9) : stepWith tbl s = .next (afterLda s) := by
  refine stepWith_of_decoded (i := .ldaImm (s.peek (s.pc + 1))) hx ?_
  rw [fetchDecode, h]
  exact decode3_eq_ok_iff.2 ⟨(lookup_of_admissible htbl).2, rfl⟩

theorem stepWith_of_peek_brk {tbl : OpTable} {s : State} (htbl : tbl.admissible = true) (hx : Executes s)
    (h : s.peek s.pc = 0x00) : stepWith tbl s = .next (halt { s with engine := .running }) := by
  refine stepWith_of_decoded (i := .brk) hx ?_
  rw [fetchDecode, h]
  exact decode3_eq_ok_iff.2 ⟨(lookup_of_admissible htbl).1, rfl⟩

/-- An engine that executes, at LDA immediate and then BRK, makes two steps and halts at the BRK. -/
theorem executeLoop_lda_brk {tbl : OpTable} {s : State} (htbl : tbl.admissible = true) (hx : Executes s)
    (hlda : s.peek s.pc = 0xA9) (hbrk : s.peek (s.pc + 2) = 0x00) (n : Nat) :
    executeLoop tbl (n + 2) 0 s = .next (halt (afterLda s), 2) := by
  have hfirst := stepWith_of_peek_lda htbl hx hlda
  have hsecond : stepWith tbl (afterLda s) = .next (halt (afterLda s)) :=
    stepWith_of_peek_brk htbl (.inl rfl) ((peek_afterLda s _).trans hbrk)
  rw [executeLoop_of_stepWith (not_stopped_of_executes hx).2 hfirst, executeLoop_of_stepWith rfl hsecond,
    executeLoop_of_terminal rfl]
  rfl

/-- R255: a loop that ended in a terminal state is a run of `execute()` that returned. -/
theorem executeUnbounded_of_executeLoop {tbl : OpTable} {fuel c : Nat} {s t : State} (hx : Executes s)
    (h : executeLoop tbl fuel 0 s = .next (t, c)) (ht : t.terminal = true) :
    executeUnbounded tbl fuel s = some (.next (t, report t c)) := by
  rw [executeUnbounded, execute_eq_next_iff.2 ⟨(not_stopped_of_executes hx).1, c, h, rfl⟩]
  exact if_pos ht

/-- R287: the canonical program loads 01 into `A` and halts at its BRK. -/
theorem execute_of_canonicalLaunch {tbl : OpTable} {s : State} {fuel : Nat} (htbl : tbl.admissible = true)
    (h : CanonicalLaunch s) (hfuel : 2 ≤ fuel) :
    ∃ t, executeUnbounded tbl fuel s =
        some (.next (t, ⟨.halted, 2, t.snapshot, some (.halt ⟨.BRK, 0x0803⟩)⟩)) ∧
      t.pc = 0x0803 ∧ t.sp = 0xFF ∧ t.a = 0x01 ∧ t.x = 0x00 ∧ t.y = 0x00 ∧ t.p = Flags.clear ∧ t.mem = s.mem := by
  have hbyte : ∀ i (hi : i < 3), s.peek (BitVec.ofNat 16 (0x0801 + i)) = BitVec.ofNat 8 [0xA9, 0x01, 0x00][i] :=
    fun _ => peek_program_of_launched h (by decide)
  have hs := eq_reset_of_launched h
  have hpc : s.pc = 0x0801 := congrArg State.pc hs
  have hx : Executes s := .inr ⟨congrArg State.engine hs, congrArg State.resetDone hs⟩
  have hlda : s.peek s.pc = 0xA9 := hpc ▸ hbyte 0 (by decide)
  have harg : s.peek (s.pc + 1) = 0x01 := hpc ▸ hbyte 1 (by decide)
  have hbrk : s.peek (s.pc + 2) = 0x00 := hpc ▸ hbyte 2 (by decide)
  obtain ⟨n, rfl⟩ := Nat.exists_eq_add_of_le' hfuel
  have hrun := executeUnbounded_of_executeLoop hx (executeLoop_lda_brk htbl hx hlda hbrk n) rfl
  have hend : (halt (afterLda s)).pc = 0x0803 := congrArg (· + 2) hpc
  have hflags : (halt (afterLda s)).p = Flags.clear := by
    show s.p.zn (s.peek (s.pc + 1)) = Flags.clear
    rw [harg, hs]
    rfl
  refine ⟨_, ?_, hend, congrArg State.sp hs, harg, congrArg State.x hs, congrArg State.y hs, hflags, rfl⟩
  rw [hrun, ← hend]
  rfl

/-- Settles O24: a launch is the reset after two loads; the canonical program loads `A` and halts. -/
theorem firstResetOfAConstructedMachine : Obligations.FirstResetOfAConstructedMachine := by
  refine ⟨fun _ => engineReset_eq _, engineReset_eq _, fun wrap program entry s h => ?_,
    fun memInit program entry => exists_launch_wrap program entry memInit, fun tbl s fuel htbl h hfuel => ?_⟩
  · obtain ⟨hlo, hhi⟩ := peek_of_peekWord (peekWord_resetVector_of_launched h)
    refine ⟨eq_reset_of_launched h, wf_of_launched h, hlo, hhi, fun hend i hi => ?_⟩
    rw [peek_program_of_launched h hend hi, BitVec.toNat_ofNat]
  · exact execute_of_canonicalLaunch htbl h hfuel

end Sys2Proof.Machine
